-- ==== Sys2Proof/Word.lean ====
section
/-!
DEFINITION. The words of the block: the 32-bit register word, the 8-bit unit of IBUF and OBUF, and the bit slice
`v[hi:lo]` of 00_scope.md R10. Every value is unsigned (R10).
-/

namespace Sys2Proof

/-- The 32-bit word of a register and of the bus (20_memory.md R63). -/
abbrev Word := BitVec 32

/-- One entry of IBUF or OBUF: a symbol or a marker unit (00_scope.md R7 UNIT_BITS = SYM_BITS = 8). -/
abbrev Byte := BitVec 8

/-- `zext_32` of a length or an index (00_scope.md R10): the count as a 32-bit word. -/
abbrev zext32 (n : Nat) : Word := BitVec.ofNat 32 n

end Sys2Proof
end

