-- ==== Sys2Proof/Config.lean ====
section
/-!
DEFINITION. What an instance fixes (the parameters of 00_scope.md R7) and the free values: constants without a body, for
the values and the order of events that the spec leaves open (93_implementation_defined.md, parts 1 and 2).
-/

namespace Sys2Proof.Config

/-- Number of symbols: 2^SYM_BITS (00_scope.md R7). -/
abbrev symCount : Nat := 256

/-- NODE_MAX, the number of node arena entries (00_scope.md R7). -/
abbrev nodeMax : Nat := 511

/-- CODE_MAX, the maximum stored code length in markers (00_scope.md R7). -/
abbrev codeMax : Nat := 255

/-- MARK0, the unit value of a "0"/left marker (00_scope.md R7, 30_encoding.md R95). -/
abbrev mark0 : Byte := 0x30#8

/-- MARK1, the unit value of a "1"/right marker (00_scope.md R7, 30_encoding.md R95). -/
abbrev mark1 : Byte := 0x31#8

/-- The named parameters of one instance (00_scope.md R7; 93_implementation_defined.md S11). Plain data, so that every
instance is a value; no step writes them. -/
structure Params where
  /-- IBUF_DEPTH, capacity of IBUF in units. -/
  ibufDepth : Nat
  /-- OBUF_DEPTH, capacity of OBUF in units. -/
  obufDepth : Nat
  /-- BASE, byte address of register offset 0x00. -/
  base : Nat
  deriving DecidableEq, Repr

/-- The constraints of 00_scope.md R7 on the named parameters. -/
abbrev Params.WellFormed (p : Params) : Prop :=
  1 ≤ p.ibufDepth ∧ p.ibufDepth ≤ p.obufDepth ∧ p.obufDepth ≤ 2 ^ 32 - 1 ∧ p.base % 256 = 0

/-- The defaults of 00_scope.md R7. The spec gives BASE no default: 0 is a DESIGN CHOICE (log 1); no rule of the block
reads it, because the port sees address bits 7:0 only (D2). -/
def Params.default : Params := { ibufDepth := 65536, obufDepth := 1048576, base := 0 }

/-- Free value (log 3): whether the engine's completion comes before the outside event that waits. UNVERIFIED by the spec,
which leaves the time a command takes open (40_command_lifecycle.md R113, 70_reset_and_hazards.md R260).
DESIGN CHOICE (log 22): this and the three constants below take the draw counter and not the instance, so two instances with equal counters
draw equal values, which 10_state.md R47 leaves open. -/
opaque engineFirst : Nat → Bool

/-- Free value (logs 8, 9, 22): PEND outside the time a command is pending (10_state.md R32, S3). -/
opaque freePend : Nat → Word

/-- Free value (logs 8, 22): ROOT after a reset event (10_state.md R40, S2). -/
opaque freeRoot : Nat → BitVec 9

/-- Free value (logs 8, 10, 22): the 61 bits of a NODE record that the spec leaves unspecified, by the draw and the entry's
index (10_state.md R44, 41_build.md R144, S1). -/
opaque freeNode : Nat → Nat → BitVec 61

end Sys2Proof.Config
end

