-- ==== Sys2Proof/Syntax.lean ====
section
/-!
DEFINITION. The instructions: the five commands, the illegal command word, and the host's register accesses, one constructor
for each row of spec/opcode_table.json.
-/

namespace Sys2Proof

/-- One access on the register port (00_scope.md R13; D2): direction, width in bits, byte offset (address bits 7:0) and,
for a write, the write data. -/
inductive Access where
  | read  (width : Nat) (off : BitVec 8)
  | write (width : Nat) (off : BitVec 8) (data : Word)
  deriving DecidableEq, Repr, Inhabited

/-- The two write-only registers, CMD and IN_DATA (20_memory.md R69). -/
inductive WriteOnlyReg where
  | cmd
  | inData
  deriving DecidableEq, Repr, Inhabited

/-- The instructions of the block. A command's constructor stands for the COMPLETION of that command
(40_command_lifecycle.md R114); the acceptance is `wrCmd`. -/
inductive Instr where
  /-- BUILD, CMD word 0x0000_0001 (41_build.md R130). -/
  | build
  /-- ENCODE, CMD word 0x0000_0002 (42_encode.md R160). -/
  | encode
  /-- DECODE, CMD word 0x0000_0003 (43_decode.md R175). -/
  | decode
  /-- READ_FREQ s, CMD word 0x0000_0004 with s in bits 15:8 (44_accessors.md R195). -/
  | readFreq (sym : Byte)
  /-- READ_CODE s, CMD word 0x0000_0005 with s in bits 15:8 (44_accessors.md R196). -/
  | readCode (sym : Byte)
  /-- ILLEGAL: any other command word, by its fields (30_encoding.md R85, R89; 40_command_lifecycle.md R119). -/
  | illegal (op rsv0 : BitVec 4) (sym : Byte) (rsv1 : BitVec 16)
  /-- Write w to CMD (45_host_interface.md R206). -/
  | wrCmd (w : Word)
  /-- Read STATUS (R207). -/
  | rdStatus
  /-- Read RESULT (R208). -/
  | rdResult
  /-- Read ERR_INDEX (R209). -/
  | rdErrIndex
  /-- Write w to IN_DATA: push (R210, R211). -/
  | wrInData (w : Word)
  /-- Read IN_COUNT (R212). -/
  | rdInCount
  /-- Read OUT_DATA: pop (R213). -/
  | rdOutData
  /-- Read OUT_COUNT (R214). -/
  | rdOutCount
  /-- Read of a write-only register (20_memory.md R69). -/
  | rdWriteOnly (reg : WriteOnlyReg)
  /-- Write to the read-only STATUS (20_memory.md R68). -/
  | wrStatus (w : Word)
  /-- Write to the read-only RESULT (R68). -/
  | wrResult (w : Word)
  /-- Write to the read-only ERR_INDEX (R68). -/
  | wrErrIndex (w : Word)
  /-- Write to the read-only IN_COUNT (R68). -/
  | wrInCount (w : Word)
  /-- Write to the read-only OUT_DATA (R68). -/
  | wrOutData (w : Word)
  /-- Write to the read-only OUT_COUNT (R68). -/
  | wrOutCount (w : Word)
  /-- A bus error: unmapped offset, unaligned offset or a width other than 32 (20_memory.md R62 to R65). -/
  | busError (a : Access)
  deriving DecidableEq, Repr

end Sys2Proof
end

