-- ==== Sys2Proof/Machine/Types.lean ====
section
/-!
DEFINITION. The data types of the machine: markers, records of the code table and of the node arena, error and detail names,
what the outside world does and what it is answered.
-/

namespace Sys2Proof.Machine

/-- A marker: one step of a code, `zero` for MARK0 (left) and `one` for MARK1 (right) (00_scope.md R16, 30_encoding.md R95). -/
inductive Marker where
  | zero
  | one
  deriving DecidableEq, Repr, Inhabited

/-- A CODE entry as stored, `{len[7:0], bits[254:0]}` (10_state.md R41, 30_encoding.md R97). -/
structure CodeRec where
  len : BitVec 8
  bits : BitVec 255
  deriving DecidableEq, Repr, Inhabited

/-- A NODE record (10_state.md R38). A child is `none` where lv (or rv) is 0, that is ABSENT; the index of an absent child has no
meaning and is not stored (log 14). -/
structure NodeRec where
  leaf : Bool
  sym : Byte
  freq : Word
  left : Option (BitVec 9)
  right : Option (BitVec 9)
  deriving DecidableEq, Repr, Inhabited

/-- The Tree Builder's working copy: NODE'[0..NODE_COUNT'−1] and ROOT' (41_build.md R131, R137, R138). -/
structure BuiltTree where
  nodes : List NodeRec
  root : Nat
  deriving DecidableEq, Repr

/-- The results of a command that STATUS.ERR can hold (30_encoding.md R93; values 8 to 15 are never written). -/
inductive Err where
  | ok
  | invalidInput
  | notBuilt
  | unknownSymbol
  | invalidEncoding
  | incompleteSequence
  | capacityExceeded
  | illegalCommand
  deriving DecidableEq, Repr, Inhabited

/-- The details that STATUS.DETAIL can hold (30_encoding.md R94; value 7 is never written). -/
inductive Detail where
  | none
  | badMarker
  | noChild
  | inOverflow
  | outOverflow
  | badOpcode
  | rsvField
  deriving DecidableEq, Repr, Inhabited

/-- How an operation rule ends: it succeeds, or it executes `raise E(detail, index)` with the RESULT value of the error record
(00_scope.md R14; 40_command_lifecycle.md R116, R117). -/
inductive OpResult (α : Type) where
  | success (value : α)
  | raised (e : Err) (d : Detail) (index : Nat) (result : Nat)
  deriving DecidableEq, Repr

/-- What the outside world does to the block: the host performs an access, or reset is asserted (45_host_interface.md R215,
70_reset_and_hazards.md R250). -/
inductive Event where
  | access (a : Access)
  | reset
  deriving DecidableEq, Repr

/-- What the host is answered for an access (40_command_lifecycle.md R123: "the values the host's reads returned"). -/
inductive Response where
  /-- A read returned this word. -/
  | data (v : Word)
  /-- A write was performed, or ignored (20_memory.md R68). -/
  | done
  /-- The bus reported an error; no data (20_memory.md R65). -/
  | busError
  /-- A held write was discarded by reset (70_reset_and_hazards.md R252). -/
  | discarded
  deriving DecidableEq, Repr

end Sys2Proof.Machine
end

