-- ==== Sys2Proof/Machine/Layout.lean ====
section
/-!
DEFINITION. Storage layouts and value encodings of 30_encoding.md: marker units (R95), CODE records (R97), NODE records (R98)
and the numbers of ERR (R93) and DETAIL (R94).
-/

namespace Sys2Proof.Machine

open Sys2Proof

/-- The unit of a marker (30_encoding.md R95). -/
def Marker.unit : Marker → Byte
  | .zero => Config.mark0
  | .one => Config.mark1

/-- The marker a unit is, if it is one (30_encoding.md R95; any other value is an invalid marker, 43_decode.md R178). -/
def Marker.ofUnit (u : Byte) : Option Marker :=
  if u = Config.mark0 then some .zero else if u = Config.mark1 then some .one else none

/-- The bit of a marker in a CODE record: 0 for MARK0, 1 for MARK1 (30_encoding.md R97). -/
def Marker.bit : Marker → Bool
  | .zero => false
  | .one => true

/-- The marker of a bit of a CODE record (30_encoding.md R97). -/
def Marker.ofBit : Bool → Marker
  | false => .zero
  | true => .one

/-- The number whose bit j is the bit of the j-th marker (30_encoding.md R97). -/
def packMarkers : List Marker → Nat
  | [] => 0
  | m :: ms => m.bit.toNat + 2 * packMarkers ms

/-- Storage of a code (30_encoding.md R97): `len` its length, bits[j] = 1 where marker j is MARK1, 0 at and above len. A code has
at most 255 markers (00_scope.md R8), so nothing is cut off. -/
def CodeRec.ofMarkers (p : List Marker) : CodeRec :=
  { len := BitVec.ofNat 8 p.length, bits := BitVec.ofNat 255 (packMarkers p) }

/-- The `len` markers of a stored code, the step from the root first (10_state.md R41, 30_encoding.md R97). -/
def CodeRec.markers (c : CodeRec) : List Marker :=
  (List.range c.len.toNat).map fun j => Marker.ofBit (c.bits.getLsbD j)

/-- The code as OBUF units (44_accessors.md R196, 42_encode.md R161: c.m[0] first). -/
def CodeRec.units (c : CodeRec) : List Byte := c.markers.map Marker.unit

/-- The entry of a symbol without a code: len 0, m empty, so every bit 0 (10_state.md R41, R46; 30_encoding.md R97). -/
def CodeRec.empty : CodeRec := { len := 0, bits := 0 }

/-- `Leaf(sym, freq)` (00_scope.md R15): leaf = 1, lv = rv = 0. -/
def NodeRec.leafOf (sym : Byte) (freq : Word) : NodeRec :=
  { leaf := true, sym := sym, freq := freq, left := none, right := none }

/-- `Internal(freq, left, right)` (00_scope.md R15): leaf = 0, sym = 0 and unused (10_state.md R38). -/
def NodeRec.internal (freq : Word) (left right : Option (BitVec 9)) : NodeRec :=
  { leaf := false, sym := 0, freq := freq, left := left, right := right }

/-- A NODE record read from its 61 stored bits `{leaf[60], sym[59:52], freq[51:20], lv[19], left[18:10], rv[9], right[8:0]}`
(30_encoding.md R98). -/
def NodeRec.unpack (b : BitVec 61) : NodeRec :=
  { leaf := b.getLsbD 60
    sym := b.extractLsb' 52 8
    freq := b.extractLsb' 20 32
    left := if b.getLsbD 19 then some (b.extractLsb' 10 9) else none
    right := if b.getLsbD 9 then some (b.extractLsb' 0 9) else none }

/-- The 61 stored bits of a NODE record (30_encoding.md R98). The index bits of an absent child have no meaning (10_state.md
R38); this view shows them 0 (log 14). -/
def NodeRec.pack (n : NodeRec) : BitVec 61 :=
  BitVec.ofBool n.leaf ++ n.sym ++ n.freq ++ BitVec.ofBool n.left.isSome ++ n.left.getD 0 ++
    BitVec.ofBool n.right.isSome ++ n.right.getD 0

/-- The number of an error in STATUS.ERR (30_encoding.md R93). -/
def Err.code : Err → BitVec 4
  | .ok => 0
  | .invalidInput => 1
  | .notBuilt => 2
  | .unknownSymbol => 3
  | .invalidEncoding => 4
  | .incompleteSequence => 5
  | .capacityExceeded => 6
  | .illegalCommand => 7

/-- The number of a detail in STATUS.DETAIL (30_encoding.md R94). -/
def Detail.code : Detail → BitVec 3
  | .none => 0
  | .badMarker => 1
  | .noChild => 2
  | .inOverflow => 3
  | .outOverflow => 4
  | .badOpcode => 5
  | .rsvField => 6

end Sys2Proof.Machine
end

