-- ==== Sys2Proof/Machine/State.lean ====
section
/-!
DEFINITION. The state of one instance (10_state.md R22, R47), the host's accesses around it, the reasons a step can stop, and
the state after reset (10_state.md R46).
-/

namespace Sys2Proof.Machine

open Sys2Proof

/-- Why a step stops with a fault. -/
inductive Fault where
  /-- Raised by DECODE alone, when its walk reaches index 511: NODE has the entries 0..510 only (10_state.md R38). Safe: no run from
  reset reaches such a state (log 11). -/
  | noSuchNode
  deriving DecidableEq, Repr

/-- Why an instruction has no meaning. -/
inductive Refusal where
  /-- Raised by an arm of exec whose instruction is not modelled; no arm raises it in this model. Safe. -/
  | notModelled (mnemonic : String)
  deriving DecidableEq, Repr

/-- The state. The fields from `busy` to `code` are 10_state.md R22's list; the others are the interface and the model's own
(INVENTORY.md, State). -/
structure State where
  /-- The parameters of the instance (00_scope.md R7; log 1). No step writes them. -/
  cfg : Config.Params
  /-- STATUS.BUSY (10_state.md R24). -/
  busy : Bool
  /-- STATUS.BUILT (R25). -/
  built : Bool
  /-- STATUS.IN_OVF (R26). -/
  inOvf : Bool
  /-- STATUS.ERR (R27). -/
  err : Err
  /-- STATUS.DETAIL (R28). -/
  detail : Detail
  /-- RESULT (R30). -/
  result : Word
  /-- ERR_INDEX (R31). -/
  errIndex : Word
  /-- PEND (R32). -/
  pend : Word
  /-- IBUF, element 0 first (R33). -/
  ibuf : List Byte
  /-- OBUF, element 0 first (R35). -/
  obuf : List Byte
  /-- FREQ (R37). -/
  freq : Vector Word 256
  /-- NODE (R38). -/
  node : Vector NodeRec 511
  /-- NODE_COUNT (R39). -/
  nodeCount : BitVec 10
  /-- ROOT (R40). -/
  root : BitVec 9
  /-- CODE (R41). -/
  code : Vector CodeRec 256
  /-- The access held while BUSY = 1, if one is (40_command_lifecycle.md R111). -/
  held : Option Access
  /-- What the outside world still does, in time order (log 2). -/
  events : List Event
  /-- What the host has been answered, oldest first (40_command_lifecycle.md R123; log 5). -/
  resp : List Response
  /-- A bus error has occurred; no later step clears it (20_memory.md R65, 60_exceptions.md R233; log 6). -/
  busFault : Bool
  /-- How many free values have been drawn (log 4). -/
  draws : Nat
  deriving DecidableEq, Repr

/-- The state right after reset of an instance with parameters `p` (10_state.md R46, 70_reset_and_hazards.md R250), with no
access held, nothing still to come and nothing answered. The spec leaves PEND, ROOT and NODE unspecified: 0 here is a
DESIGN CHOICE (log 7). -/
def State.resetOf (p : Config.Params) : State :=
  { cfg := p
    busy := false
    built := false
    inOvf := false
    err := .ok
    detail := .none
    result := 0
    errIndex := 0
    pend := 0
    ibuf := []
    obuf := []
    freq := Vector.replicate 256 0
    node := Vector.replicate 511 (NodeRec.unpack 0)
    nodeCount := 0
    root := 0
    code := Vector.replicate 256 CodeRec.empty
    held := none
    events := []
    resp := []
    busFault := false
    draws := 0 }

/-- The machine right after reset, with the default parameters of 00_scope.md R7. -/
def State.reset : State := State.resetOf Config.Params.default

end Sys2Proof.Machine
end

