-- ==== Sys2Proof/Machine/Ops.lean ====
section
/-!
DEFINITION. The named operations over the state: table entries, answers to the host, the hold and the acceptance of a command
(40_command_lifecycle.md R110, R111), what every completion writes (R116 to R119), the commit of a BUILD (41_build.md R144) and
the reset event (70_reset_and_hazards.md R250 to R252).
-/

namespace Sys2Proof.Machine

open Sys2Proof

/-! ### Tables indexed by a symbol (10_state.md R37, R41; 30_encoding.md R87: zero-extended where it indexes) -/

/-- Entry `v` of a table. -/
def entry {α : Type} (t : Vector α 256) (v : Byte) : α := t[v.toNat]'(v.isLt)

/-- The table with entry `v` replaced. -/
def setEntry {α : Type} (t : Vector α 256) (v : Byte) (x : α) : Vector α 256 := t.set v.toNat x v.isLt

/-- NODE[i], where the arena has that entry (10_state.md R38: 0..510). -/
def State.nodeAt (s : State) (i : BitVec 9) : Option NodeRec := s.node[i.toNat]?

/-! ### The host's side of an access -/

/-- The host receives an answer. -/
def State.respond (s : State) (r : Response) : State := { s with resp := s.resp ++ [r] }

/-- The access is held: not performed, and kept until the completion (40_command_lifecycle.md R111). -/
def State.hold (s : State) (a : Access) : State := { s with held := some a }

/-- The hold of 40_command_lifecycle.md R111 for a legal access other than a STATUS read: while BUSY = 1 the access is held, else it
is performed, with `done` as its effect. -/
def hostAccess (s : State) (a : Access) (done : State) : Host.Outcome State Fault Refusal :=
  .next (if s.busy then s.hold a else done)

/-- A read that returns `v` and changes no state of the block. -/
def State.answerRead (s : State) (v : Word) : State := s.respond (.data v)

/-- A write to a read-only register: ignored (20_memory.md R68). -/
def State.ignoreWrite (s : State) : State := s.respond .done

/-- Acceptance of a command word: `PEND <- w; BUSY <- 1` and nothing else (40_command_lifecycle.md R110). -/
def State.accept (s : State) (w : Word) : State := { s with pend := w, busy := true }

/-- IBUF <- IBUF ++ [u] while it has room, else the unit is discarded and IN_OVF <- 1 (45_host_interface.md R210, R211). -/
def State.push (s : State) (u : Byte) : State :=
  if s.ibuf.length < s.cfg.ibufDepth then { s with ibuf := s.ibuf ++ [u] } else { s with inOvf := true }

/-- OBUF without its first unit (45_host_interface.md R213); an empty OBUF stays empty. -/
def State.pop (s : State) : State := { s with obuf := s.obuf.tail }

/-- The host's access was a bus error: recorded for good, and reported (20_memory.md R65, 60_exceptions.md R233; log 6). -/
def State.reportBusError (s : State) : State := { s with busFault := true, resp := s.resp ++ [.busError] }

/-! ### Completion -/

/-- What every completion writes: the record of the command's result, and BUSY <- 0 (40_command_lifecycle.md R115 to R117, R119).
PEND is unspecified from here to the next acceptance (10_state.md R32): a free value (log 9). -/
def State.complete (s : State) (e : Err) (d : Detail) (index : Nat) (result : Word) : State :=
  { s with
    busy := false
    err := e
    detail := d
    errIndex := zext32 index
    result := result
    pend := Config.freePend s.draws
    draws := s.draws + 1 }

/-- The record of a success: ERR = OK, DETAIL = NONE, ERR_INDEX = 0 (40_command_lifecycle.md R116). -/
def State.succeed (s : State) (result : Word) : State := s.complete .ok .none 0 result

/-- IBUF <- [] and IN_OVF <- 0: every data command, success or error (40_command_lifecycle.md R118). -/
def State.consumeInput (s : State) : State := { s with ibuf := [], inOvf := false }

/-- OBUF <- out (40_command_lifecycle.md R118). -/
def State.setOutput (s : State) (out : List Byte) : State := { s with obuf := out }

/-- Successful completion of a data command with output `out` (40_command_lifecycle.md R116, R118). -/
def State.dataSuccess (s : State) (out : List Byte) (result : Word) : State :=
  ((s.consumeInput).setOutput out).succeed result

/-- Error completion of a data command: `raise E(detail, index)` (00_scope.md R14; 40_command_lifecycle.md R117, R118). The engine tables and
BUILT keep their values, IBUF and OBUF are emptied, IN_OVF is cleared. This is the block's whole error entry: there is no trap, and
nothing to return from (60_exceptions.md R235, R236). -/
def State.dataError (s : State) (e : Err) (d : Detail) (index result : Nat) : State :=
  ((s.consumeInput).setOutput []).complete e d index (zext32 result)

/-- Completion of a data command whose only committed effect is its output (ENCODE, DECODE): OBUF <- out and RESULT <- len(out) on success
(42_encode.md R161, 43_decode.md R176), the error completion otherwise. -/
def State.dataComplete (s : State) : OpResult (List Byte) → State
  | .success out => s.dataSuccess out (zext32 out.length)
  | .raised e d index result => s.dataError e d index result

/-- Completion of an illegal command word (40_command_lifecycle.md R119): the record alone, every buffer and table kept. -/
def State.illegalComplete (s : State) (d : Detail) : State := s.complete .illegalCommand d 0 0

/-! ### Commit of a BUILD -/

/-- NODE after a commit: the working copy below NODE_COUNT', unspecified entries from there on (41_build.md R144; free values, log 10). -/
def committedNode (nodes : List NodeRec) (draw : Nat) : Vector NodeRec 511 :=
  Vector.ofFn fun i => nodes[i.val]?.getD (NodeRec.unpack (Config.freeNode draw i.val))

/-- The writes of 41_build.md R144 to the engine tables, NODE_COUNT, ROOT and BUILT. -/
def State.commitBuild (s : State) (f : Vector Word 256) (t : BuiltTree) (c : Vector CodeRec 256) : State :=
  { s with
    freq := f
    code := c
    node := committedNode t.nodes s.draws
    nodeCount := BitVec.ofNat 10 t.nodes.length
    root := BitVec.ofNat 9 t.root
    built := true }

/-! ### Reset -/

/-- The answer to an access held when reset arrives: a held read returns 0, a held write is discarded (70_reset_and_hazards.md R252). -/
def resetAnswer : Option Access → List Response
  | none => []
  | some (.read _ _) => [.data 0]
  | some (.write _ _ _) => [.discarded]

/-- The reset event: one atomic event that sets every piece of state to its value of 10_state.md R46 (70_reset_and_hazards.md R250), ends a
running command without effect (R251) and discards a held access (R252). PEND, ROOT and NODE are unspecified: free values (log 8). The
parameters, the host's events and answers, and the record of a bus error are not the block's and stay. -/
def State.takeReset (s : State) : State :=
  { State.resetOf s.cfg with
    pend := Config.freePend s.draws
    root := Config.freeRoot s.draws
    node := Vector.ofFn fun i => NodeRec.unpack (Config.freeNode s.draws i.val)
    events := s.events
    resp := s.resp ++ resetAnswer s.held
    busFault := s.busFault
    draws := s.draws + 1 }

end Sys2Proof.Machine
end

