-- ==== Sys2Proof/WellFormed.lean ====
section
/-!
DEFINITION. Which terms of Instr the block's words and accesses can express: an `illegal` word is one the classification of
30_encoding.md R89 refuses, and a `busError` access is one that 20_memory.md R62 to R64 refuse.
-/

namespace Sys2Proof

/-- Width in bits of an access (20_memory.md R63). -/
def Access.width : Access → Nat
  | .read w _ => w
  | .write w _ _ => w

/-- Byte offset of an access in the window (20_memory.md R60). -/
def Access.off : Access → BitVec 8
  | .read _ o => o
  | .write _ o _ => o

/-- The access is a bus error, decided from the offset and the width alone (20_memory.md R65): a width other than 32 (R63),
an offset that is no multiple of 4 (R64), or an offset in 0x20..0xFF (R62). -/
def Access.isBusError (a : Access) : Bool :=
  a.width != 32 || a.off.toNat % 4 != 0 || 0x20 ≤ a.off.toNat

/-- OP is 0x0 or 0x6..0xF, the first test of 30_encoding.md R89. -/
def badOpcode (op : BitVec 4) : Bool :=
  op == 0x0#4 || 0x6#4 ≤ op

/-- A reserved field is not 0, the second and third tests of 30_encoding.md R89: RSV0 or RSV1, and SYM in BUILD, ENCODE and
DECODE (R88). -/
def badReserved (op rsv0 : BitVec 4) (sym : Byte) (rsv1 : BitVec 16) : Bool :=
  rsv0 != 0 || rsv1 != 0 || ((op == 0x1#4 || op == 0x2#4 || op == 0x3#4) && sym != 0)

/-- The term is one that decoding can answer: a true illegal word, a true bus error; every other term is well formed,
whatever its operands (30_encoding.md R89, R90; 20_memory.md R62 to R65). -/
def Instr.wellFormed : Instr → Bool
  | .build => true
  | .encode => true
  | .decode => true
  | .readFreq _ => true
  | .readCode _ => true
  | .illegal op rsv0 sym rsv1 => badOpcode op || badReserved op rsv0 sym rsv1
  | .wrCmd _ => true
  | .rdStatus => true
  | .rdResult => true
  | .rdErrIndex => true
  | .wrInData _ => true
  | .rdInCount => true
  | .rdOutData => true
  | .rdOutCount => true
  | .rdWriteOnly _ => true
  | .wrStatus _ => true
  | .wrResult _ => true
  | .wrErrIndex _ => true
  | .wrInCount _ => true
  | .wrOutData _ => true
  | .wrOutCount _ => true
  | .busError a => a.isBusError

end Sys2Proof
end

