-- ==== Sys2Proof/Machine/Flags.lean ====
section
/-!
DEFINITION. The STATUS word (10_state.md R23 to R29, R45): the block's only flags are BUSY, BUILT and IN_OVF, beside the ERR and DETAIL codes;
there are no condition codes.
-/

namespace Sys2Proof.Machine

open Sys2Proof

/-- STATUS as read: `{21'b0, DETAIL[2:0], ERR[3:0], 1'b0, IN_OVF, BUILT, BUSY}` (10_state.md R23, 45_host_interface.md R207). -/
def State.status (s : State) : Word :=
  0#21 ++ s.detail.code ++ s.err.code ++ 0#1 ++ BitVec.ofBool s.inOvf ++ BitVec.ofBool s.built ++
    BitVec.ofBool s.busy

/-- The detail of an illegal word: BAD_OPCODE before RSV_FIELD (30_encoding.md R89, R94). -/
def illegalDetail (op : BitVec 4) : Detail := if badOpcode op then .badOpcode else .rsvField

end Sys2Proof.Machine
end

