-- ==== Sys2Proof/Machine/Accessors.lean ====
section
/-!
DEFINITION. The accessor commands READ_FREQ and READ_CODE (44_accessors.md R195 to R199) and the illegal command word
(40_command_lifecycle.md R119).
-/

namespace Sys2Proof.Machine

open Sys2Proof

/-- READ_FREQ s: RESULT <- FREQ[s]; every buffer kept; no check of BUILT (44_accessors.md R195, R198). -/
def execReadFreq (sym : Byte) (s : State) : Host.Outcome State Fault Refusal :=
  .next (s.succeed (entry s.freq sym))

/-- READ_CODE s: OBUF <- c.m, RESULT <- c.len; IBUF and IN_OVF kept; no check of BUILT (44_accessors.md R196, R198). -/
def execReadCode (sym : Byte) (s : State) : Host.Outcome State Fault Refusal :=
  .next ((s.setOutput (entry s.code sym).units).succeed (zext32 (entry s.code sym).len.toNat))

/-- An illegal word: accepted, and completed with IllegalCommand and the detail of 30_encoding.md R89 (40_command_lifecycle.md R119,
60_exceptions.md R232). -/
def execIllegal (op _rsv0 : BitVec 4) (_sym : Byte) (_rsv1 : BitVec 16) (s : State) :
    Host.Outcome State Fault Refusal :=
  .next (s.illegalComplete (illegalDetail op))

end Sys2Proof.Machine
end

