-- ==== Sys2Proof/Machine/Tree.lean ====
section
/-!
DEFINITION. BUILD's phases 1 and 2: the Frequency Counter (41_build.md R132) and the Tree Builder (R134 to R138), as functions from the input to
working copies.
-/

namespace Sys2Proof.Machine

open Sys2Proof

/-- One more occurrence of a symbol: FREQ'[v] + 1, 32-bit unsigned (41_build.md R132). -/
def bump (f : Vector Word 256) (v : Byte) : Vector Word 256 := setEntry f v (entry f v + 1)

/-- count(s): every entry 0, then one scan of the input in order (41_build.md R132). -/
def count (s : List Byte) : Vector Word 256 := s.foldl bump (Vector.replicate 256 0)

/-- All symbols from 0xFF down to 0x00 (41_build.md R134). -/
def symbolsDown : List Byte := (List.range 256).reverse.map (BitVec.ofNat 8)

/-- The distinct symbols of the input, in descending order (41_build.md R134). -/
def distinct (f : Vector Word 256) : List Byte := symbolsDown.filter fun v => entry f v != 0

/-- The leaves, NODE'[k] = Leaf(syms[k], FREQ'[syms[k]]) (41_build.md R134). -/
def leaves (f : Vector Word 256) : List NodeRec := (distinct f).map fun v => NodeRec.leafOf v (entry f v)

/-- NODE'[i].freq; an index that holds no node has none, and no index in Q is such. -/
def freqAt (nodes : List NodeRec) (i : Nat) : Word := (nodes[i]?.map NodeRec.freq).getD 0

/-- The key order of 41_build.md R135: the lesser combined frequency, among equal ones the lesser index. -/
def keyLt (nodes : List NodeRec) (a b : Nat) : Bool :=
  decide (freqAt nodes a < freqAt nodes b) || (freqAt nodes a == freqAt nodes b && decide (a < b))

/-- The index with the least key among `best` and `q`. -/
def leastKey (nodes : List NodeRec) : Nat → List Nat → Nat
  | best, [] => best
  | best, x :: xs => leastKey nodes (if keyLt nodes x best then x else best) xs

/-- extract-min(Q): the index of the least key, and Q without it (41_build.md R135). Q is a set of indices, held as a list without repeats. -/
def extractMin (nodes : List NodeRec) : List Nat → Option (Nat × List Nat)
  | [] => none
  | x :: xs => some (leastKey nodes x xs, (x :: xs).erase (leastKey nodes x xs))

/-- One merge step: two extractions, the first the left child, and their parent inserted (41_build.md R136). It has no meaning for |Q| ≤ 1,
where the loop of R137 has ended. -/
def mergeStep (nodes : List NodeRec) (q : List Nat) : Option (List NodeRec × List Nat) :=
  match extractMin nodes q with
  | none => none
  | some (a, q1) =>
    match extractMin nodes q1 with
    | none => none
    | some (b, q2) =>
      some (nodes ++ [NodeRec.internal (freqAt nodes a + freqAt nodes b)
              (some (BitVec.ofNat 9 a)) (some (BitVec.ofNat 9 b))],
            q2 ++ [nodes.length])

/-- The merge loop: merge steps while |Q| > 1 (41_build.md R137). `fuel` bounds the number of steps; n is enough, since the loop runs n − 1
times. -/
def mergeLoop : Nat → List NodeRec → List Nat → List NodeRec × List Nat
  | 0, nodes, q => (nodes, q)
  | fuel + 1, nodes, q =>
    match mergeStep nodes q with
    | none => (nodes, q)
    | some (nodes', q') => mergeLoop fuel nodes' q'

/-- The tree of n ≥ 2 symbols: Q starts as {0, ..., n−1}, ROOT' is the one element left (41_build.md R137). -/
def mergedTree (ls : List NodeRec) : BuiltTree :=
  let r := mergeLoop ls.length ls (List.range ls.length)
  { nodes := r.1, root := r.2.headD 0 }

/-- The artificial two-level tree of one distinct symbol (41_build.md R138). -/
def singleTree (l : NodeRec) : BuiltTree :=
  { nodes := [l, NodeRec.internal l.freq (some 0) none], root := 1 }

/-- tree(FREQ') (41_build.md R134 to R138). -/
def tree (f : Vector Word 256) : BuiltTree :=
  match leaves f with
  | [l] => singleTree l
  | ls => mergedTree ls

end Sys2Proof.Machine
end

