-- ==== Sys2Proof/Machine/Codes.lean ====
section
/-!
DEFINITION. BUILD's phase 3, the Code Table Generator (41_build.md R141, R142).
-/

namespace Sys2Proof.Machine

open Sys2Proof

/-- The code of a leaf reached by path `p`: the path, or [MARK0] if it is empty (41_build.md R141, R142). -/
def leafCode (p : List Marker) : List Marker := if p = [] then [.zero] else p

/-- gen(i, p): the walk below NODE'[i] with path `p` (41_build.md R141). `fuel` bounds the depth; a child's index is less than its parent's
(R139 (f)), so i + 1 is enough. -/
def gen (nodes : List NodeRec) : Nat → Nat → List Marker → Vector CodeRec 256 → Vector CodeRec 256
  | 0, _, _, c => c
  | fuel + 1, i, p, c =>
    match nodes[i]? with
    | none => c
    | some n =>
      if n.leaf then setEntry c n.sym (CodeRec.ofMarkers (leafCode p))
      else
        let c1 := match n.left with
          | none => c
          | some l => gen nodes fuel l.toNat (p ++ [.zero]) c
        match n.right with
        | none => c1
        | some r => gen nodes fuel r.toNat (p ++ [.one]) c1

/-- codes(NODE', ROOT'): every entry cleared, then the walk from the root (41_build.md R141). -/
def codes (t : BuiltTree) : Vector CodeRec 256 :=
  gen t.nodes (t.root + 1) t.root [] (Vector.replicate 256 CodeRec.empty)

end Sys2Proof.Machine
end

