-- ==== Sys2Proof/Machine/Build.lean ====
section
/-!
DEFINITION. BUILD (41_build.md R130, R131, R144, R146).
-/

namespace Sys2Proof.Machine

open Sys2Proof

/-- The number n of distinct symbols of an input (41_build.md R134), the RESULT of a BUILD (R144). -/
def distinctCount (s : List Byte) : Nat := (distinct (count s)).length

/-- Successful completion of a BUILD of input `u`: the commit of 41_build.md R144, IBUF and OBUF emptied, IN_OVF cleared, RESULT = n. -/
def State.buildCommit (s : State) (u : List Byte) : State :=
  (s.commitBuild (count u) (tree (count u)) (codes (tree (count u)))).dataSuccess [] (zext32 (distinctCount u))

/-- BUILD: the checks of 41_build.md R131 in their order, IN_OVF (R146 (a)) before the empty input (R146 (b)), then the three phases. -/
def execBuild (s : State) : Host.Outcome State Fault Refusal :=
  .next (
    if s.inOvf then s.dataError .capacityExceeded .inOverflow s.cfg.ibufDepth 0
    else if s.ibuf = [] then s.dataError .invalidInput .none 0 0
    else s.buildCommit s.ibuf)

end Sys2Proof.Machine
end

