-- ==== Sys2Proof/Machine/DecodeCmd.lean ====
section
/-!
DEFINITION. DECODE, the tree-walking state machine (43_decode.md R175 to R184).
-/

namespace Sys2Proof.Machine

open Sys2Proof

/-- The child of a node that a marker selects: MARK0 the left, MARK1 the right; none is ABSENT (43_decode.md R178, R179). -/
def NodeRec.child (n : NodeRec) : Marker → Option (BitVec 9)
  | .zero => n.left
  | .one => n.right

/-- The loop of 43_decode.md R176 from index `i` on, in node `cur` with `out` emitted so far. `none`: the walk reached an index that the arena
does not have (log 11). At one index BAD_MARKER comes before NO_CHILD (R178), a leaf is emitted and left at once (R180), and after the last
unit the walk must be at the root (R181). An error's RESULT is the number of symbols emitted (R184). -/
def decodeWalk (s : State) : Nat → BitVec 9 → List Byte → List Byte → Option (OpResult (List Byte))
  | i, cur, out, [] =>
    if cur = s.root then some (.success out) else some (.raised .incompleteSequence .none i out.length)
  | i, cur, out, u :: us =>
    match Marker.ofUnit u with
    | none => some (.raised .invalidEncoding .badMarker i out.length)
    | some m =>
      match s.nodeAt cur with
      | none => none
      | some n =>
        match n.child m with
        | none => some (.raised .invalidEncoding .noChild i out.length)
        | some t =>
          match s.nodeAt t with
          | none => none
          | some k =>
            if k.leaf then decodeWalk s (i + 1) s.root (out ++ [k.sym]) us
            else decodeWalk s (i + 1) t out us

/-- The operation rule of DECODE: NotBuilt, then IN_OVF, then the walk from the root (43_decode.md R176, R183). -/
def decodeRule (s : State) : Option (OpResult (List Byte)) :=
  if !s.built then some (.raised .notBuilt .none 0 0)
  else if s.inOvf then some (.raised .capacityExceeded .inOverflow s.cfg.ibufDepth 0)
  else decodeWalk s 0 s.root [] s.ibuf

/-- DECODE (43_decode.md R175). -/
def execDecode (s : State) : Host.Outcome State Fault Refusal :=
  match decodeRule s with
  | none => .fault .noSuchNode
  | some r => .next (s.dataComplete r)

end Sys2Proof.Machine
end

