-- ==== Sys2Proof/Machine/EncodeCmd.lean ====
section
/-!
DEFINITION. ENCODE (42_encode.md R160 to R162).
-/

namespace Sys2Proof.Machine

open Sys2Proof

/-- The scan of 42_encode.md R161 from index `i` on, with `out` assembled so far: at each index UnknownSymbol before OUT_OVERFLOW (R162). -/
def encodeScan (c : Vector CodeRec 256) (depth : Nat) : Nat → List Byte → List Byte → OpResult (List Byte)
  | _, out, [] => .success out
  | i, out, u :: us =>
    let r := entry c u
    if r.len = 0 then .raised .unknownSymbol .none i 0
    else if out.length + r.len.toNat > depth then .raised .capacityExceeded .outOverflow i 0
    else encodeScan c depth (i + 1) (out ++ r.units) us

/-- The operation rule of ENCODE: NotBuilt, then IN_OVF, then the scan (42_encode.md R161, R162). -/
def encodeRule (s : State) : OpResult (List Byte) :=
  if !s.built then .raised .notBuilt .none 0 0
  else if s.inOvf then .raised .capacityExceeded .inOverflow s.cfg.ibufDepth 0
  else encodeScan s.code s.cfg.obufDepth 0 [] s.ibuf

/-- ENCODE (42_encode.md R160). -/
def execEncode (s : State) : Host.Outcome State Fault Refusal :=
  .next (s.dataComplete (encodeRule s))

end Sys2Proof.Machine
end

