-- ==== Sys2Proof/Decode.lean ====
section
/-!
DEFINITION. Decoding of command words (30_encoding.md R85 to R90) and of register accesses (20_memory.md R61 to R65), total
on every word and every access: a word outside R86's list is `illegal`, an access outside the map is `busError`, each by
name. After it the encoder, from the same tables, and the host's view of the opcode table's bits.
-/

namespace Sys2Proof

/-! ### Fields of a command word (30_encoding.md R85) -/

/-- OP, bits 3:0. -/
def fieldOp (w : Word) : BitVec 4 := w.extractLsb' 0 4

/-- RSV0, bits 7:4. -/
def fieldRsv0 (w : Word) : BitVec 4 := w.extractLsb' 4 4

/-- SYM, bits 15:8 (R87: taken as an 8-bit symbol). -/
def fieldSym (w : Word) : Byte := w.extractLsb' 8 8

/-- RSV1, bits 31:16. -/
def fieldRsv1 (w : Word) : BitVec 16 := w.extractLsb' 16 16

/-- The word `{RSV1, SYM, RSV0, OP}` (R85). -/
def commandWord (rsv1 : BitVec 16) (sym : Byte) (rsv0 op : BitVec 4) : Word :=
  rsv1 ++ sym ++ rsv0 ++ op

/-- Decoding of a command word: the tests of 30_encoding.md R89 in their order; the first that applies decides. The last
arm cannot be reached, because the first test takes every OP it would meet. -/
def decodeCommand (w : Word) : Instr :=
  if badOpcode (fieldOp w) then .illegal (fieldOp w) (fieldRsv0 w) (fieldSym w) (fieldRsv1 w)
  else if badReserved (fieldOp w) (fieldRsv0 w) (fieldSym w) (fieldRsv1 w) then
    .illegal (fieldOp w) (fieldRsv0 w) (fieldSym w) (fieldRsv1 w)
  else match fieldOp w with
    | 0x1#4 => .build
    | 0x2#4 => .encode
    | 0x3#4 => .decode
    | 0x4#4 => .readFreq (fieldSym w)
    | 0x5#4 => .readCode (fieldSym w)
    | _ => .illegal (fieldOp w) (fieldRsv0 w) (fieldSym w) (fieldRsv1 w)

/-- Decoding of a legal read by its offset: the map of 20_memory.md R61, with the reads of R69. -/
def decodeRead (a : Access) : Instr :=
  match a.off.toNat with
  | 0x00 => .rdWriteOnly .cmd
  | 0x04 => .rdStatus
  | 0x08 => .rdResult
  | 0x0C => .rdErrIndex
  | 0x10 => .rdWriteOnly .inData
  | 0x14 => .rdInCount
  | 0x18 => .rdOutData
  | 0x1C => .rdOutCount
  | _ => .busError a

/-- Decoding of a legal write of `d` by its offset: the map of 20_memory.md R61, with the ignored writes of R68. -/
def decodeWrite (a : Access) (d : Word) : Instr :=
  match a.off.toNat with
  | 0x00 => .wrCmd d
  | 0x04 => .wrStatus d
  | 0x08 => .wrResult d
  | 0x0C => .wrErrIndex d
  | 0x10 => .wrInData d
  | 0x14 => .wrInCount d
  | 0x18 => .wrOutData d
  | 0x1C => .wrOutCount d
  | _ => .busError a

/-- Decoding of a host access: a bus error is decided first, from offset and width alone (20_memory.md R65). -/
def decodeAccess (a : Access) : Instr :=
  if a.isBusError then .busError a
  else match a with
    | .read _ _ => decodeRead a
    | .write _ _ d => decodeWrite a d

/-! ### The encoder -/

/-- What the host puts on the port for an instruction: a command word, for CMD, or an access. -/
inductive Encoded where
  | command (w : Word)
  | access (a : Access)
  deriving DecidableEq, Repr

/-- Decoding of either form. -/
def decode : Encoded → Instr
  | .command w => decodeCommand w
  | .access a => decodeAccess a

/-- The legal 32-bit read at an offset, `RegRead(off)` (00_scope.md R13). -/
def regRead (off : BitVec 8) : Access := .read 32 off

/-- The legal 32-bit write at an offset, `RegWrite(off, v)` (00_scope.md R13). -/
def regWrite (off : BitVec 8) (v : Word) : Access := .write 32 off v

/-- The encoding of an instruction: the legal words listed in 30_encoding.md R86, the fields of an illegal word, and the
access of each register (20_memory.md R61). -/
def encode : Instr → Encoded
  | .build => .command 0x00000001#32
  | .encode => .command 0x00000002#32
  | .decode => .command 0x00000003#32
  | .readFreq s => .command (commandWord 0 s 0 0x4#4)
  | .readCode s => .command (commandWord 0 s 0 0x5#4)
  | .illegal op rsv0 sym rsv1 => .command (commandWord rsv1 sym rsv0 op)
  | .wrCmd w => .access (regWrite 0x00#8 w)
  | .rdStatus => .access (regRead 0x04#8)
  | .rdResult => .access (regRead 0x08#8)
  | .rdErrIndex => .access (regRead 0x0C#8)
  | .wrInData w => .access (regWrite 0x10#8 w)
  | .rdInCount => .access (regRead 0x14#8)
  | .rdOutData => .access (regRead 0x18#8)
  | .rdOutCount => .access (regRead 0x1C#8)
  | .rdWriteOnly .cmd => .access (regRead 0x00#8)
  | .rdWriteOnly .inData => .access (regRead 0x10#8)
  | .wrStatus w => .access (regWrite 0x04#8 w)
  | .wrResult w => .access (regWrite 0x08#8 w)
  | .wrErrIndex w => .access (regWrite 0x0C#8 w)
  | .wrInCount w => .access (regWrite 0x14#8 w)
  | .wrOutData w => .access (regWrite 0x18#8 w)
  | .wrOutCount w => .access (regWrite 0x1C#8 w)
  | .busError a => .access a

/-! ### Byte lanes (20_memory.md R66) -/

/-- A word from its four byte lanes, the lane of BASE + off first: little-endian (R66). -/
def wordOfLanes (b0 b1 b2 b3 : Byte) : Word := b3 ++ b2 ++ b1 ++ b0

/-- Why a byte sequence holds no command word. -/
inductive LaneReject where
  /-- Fewer than four lanes: a command word has no shorter form (30_encoding.md R99). -/
  | tooShort
  deriving DecidableEq, Repr

/-- Decoding of a command from byte lanes, with the lanes left over: total, and a short sequence is rejected by name. -/
def decodeLanes : List Byte → Except LaneReject (Instr × List Byte)
  | b0 :: b1 :: b2 :: b3 :: rest => .ok (decodeCommand (wordOfLanes b0 b1 b2 b3), rest)
  | _ => .error .tooShort

/-! ### The opcode table's bits -/

/-- The access that a REG row's eight bits name: the 32-bit access at that offset, with data 0, in the direction that the
"access" column of 20_memory.md R61 gives the register (W for CMD and IN_DATA, R for the others). The table's bits hold
neither direction, width nor data: the choice is the model's (DESIGN CHOICE, log 16). -/
def tableAccess (off : BitVec 8) : Access :=
  if off == 0x00#8 || off == 0x10#8 then regWrite off 0 else regRead off

/-- What is placed for a row of spec/opcode_table.json: rows of at most 8 bits are REG rows (the offset), the others are
command words. -/
def tableEncoded (nbits w : Nat) : Encoded :=
  if nbits ≤ 8 then .access (tableAccess (BitVec.ofNat 8 w)) else .command (BitVec.ofNat 32 w)

/-- The instruction the decoder reads from an instruction whose bits are `w`, numbered as spec/opcode_table.json numbers
them. Decoding is total, so it always answers. -/
def decodeTableWord (nbits w : Nat) : Option Instr :=
  some (decode (tableEncoded nbits w))

end Sys2Proof
end

