-- ==== Sys2Proof/Machine/Operands.lean ====
section
/-!
DEFINITION. Operand and data-word forms: the unit of an IN_DATA write (30_encoding.md R91), the word of an OUT_DATA read (R92), the counts
of IN_COUNT and OUT_COUNT (10_state.md R34, R36), and BASE + offset (00_scope.md R13).
-/

namespace Sys2Proof.Machine

open Sys2Proof

/-- The unit that a word written to IN_DATA pushes: bits 7:0; bits 31:8 are ignored (30_encoding.md R91). -/
def inDataUnit (w : Word) : Byte := w.extractLsb' 0 8

/-- The word an OUT_DATA read returns: `{23'b0, VALID = 1, OBUF[0]}`, or 0 when OBUF is empty (30_encoding.md R92). -/
def outDataWord : List Byte → Word
  | [] => 0
  | u :: _ => 0#23 ++ 1#1 ++ u

/-- IN_COUNT: zext_32(len(IBUF)) (10_state.md R34). -/
def State.inCount (s : State) : Word := zext32 s.ibuf.length

/-- OUT_COUNT: zext_32(len(OBUF)) (10_state.md R36). -/
def State.outCount (s : State) : Word := zext32 s.obuf.length

/-- The offset of a byte address in the instance's window BASE + 0x00 .. BASE + 0xFF (20_memory.md R60; 00_scope.md R13). -/
def windowOffset (p : Config.Params) (addr : Nat) : Option (BitVec 8) :=
  if p.base ≤ addr ∧ addr < p.base + 256 then some (BitVec.ofNat 8 (addr - p.base)) else none

/-- `MemRead(addr, n)`: a read of n bytes at a platform address, as the access of the instance whose window holds the address
(00_scope.md R13). -/
def memRead (p : Config.Params) (addr n : Nat) : Option Access :=
  (windowOffset p addr).map fun off => .read (8 * n) off

/-- `MemWrite(addr, n, v)` (00_scope.md R13). -/
def memWrite (p : Config.Params) (addr n : Nat) (v : Word) : Option Access :=
  (windowOffset p addr).map fun off => .write (8 * n) off v

end Sys2Proof.Machine
end

