-- ==== Sys2Proof/Machine/HostAccess.lean ====
section
/-!
DEFINITION. The host's register accesses (45_host_interface.md R206 to R214; 20_memory.md R62 to R69), each held while BUSY = 1 except a STATUS
read and a bus error (40_command_lifecycle.md R111, R112).
-/

namespace Sys2Proof.Machine

open Sys2Proof

/-- Write CMD: acceptance (45_host_interface.md R206, 40_command_lifecycle.md R110). -/
def execWrCmd (w : Word) (s : State) : Host.Outcome State Fault Refusal :=
  hostAccess s (regWrite 0x00 w) ((s.accept w).respond .done)

/-- Read STATUS: performed at once, also while BUSY = 1 (45_host_interface.md R207, 40_command_lifecycle.md R112). -/
def execRdStatus (s : State) : Host.Outcome State Fault Refusal :=
  .next (s.answerRead s.status)

/-- Read RESULT (45_host_interface.md R208). -/
def execRdResult (s : State) : Host.Outcome State Fault Refusal :=
  hostAccess s (regRead 0x08) (s.answerRead s.result)

/-- Read ERR_INDEX (45_host_interface.md R209). -/
def execRdErrIndex (s : State) : Host.Outcome State Fault Refusal :=
  hostAccess s (regRead 0x0C) (s.answerRead s.errIndex)

/-- Write IN_DATA: push bits 7:0, or set IN_OVF (45_host_interface.md R210, R211; 30_encoding.md R91). -/
def execWrInData (w : Word) (s : State) : Host.Outcome State Fault Refusal :=
  hostAccess s (regWrite 0x10 w) ((s.push (inDataUnit w)).respond .done)

/-- Read IN_COUNT (45_host_interface.md R212). -/
def execRdInCount (s : State) : Host.Outcome State Fault Refusal :=
  hostAccess s (regRead 0x14) (s.answerRead s.inCount)

/-- Read OUT_DATA: pop, or 0 with no change when OBUF is empty (45_host_interface.md R213; 30_encoding.md R92). -/
def execRdOutData (s : State) : Host.Outcome State Fault Refusal :=
  hostAccess s (regRead 0x18) (s.pop.answerRead (outDataWord s.obuf))

/-- Read OUT_COUNT (45_host_interface.md R214). -/
def execRdOutCount (s : State) : Host.Outcome State Fault Refusal :=
  hostAccess s (regRead 0x1C) (s.answerRead s.outCount)

/-- Offset of a write-only register (20_memory.md R61). -/
def writeOnlyOffset : WriteOnlyReg → BitVec 8
  | .cmd => 0x00
  | .inData => 0x10

/-- Read of CMD or IN_DATA: returns 0 and changes no state (20_memory.md R69). -/
def execRdWriteOnly (reg : WriteOnlyReg) (s : State) : Host.Outcome State Fault Refusal :=
  hostAccess s (regRead (writeOnlyOffset reg)) (s.answerRead 0)

/-- Write to STATUS: ignored (20_memory.md R68). -/
def execWrStatus (w : Word) (s : State) : Host.Outcome State Fault Refusal :=
  hostAccess s (regWrite 0x04 w) s.ignoreWrite

/-- Write to RESULT: ignored (20_memory.md R68). -/
def execWrResult (w : Word) (s : State) : Host.Outcome State Fault Refusal :=
  hostAccess s (regWrite 0x08 w) s.ignoreWrite

/-- Write to ERR_INDEX: ignored (20_memory.md R68). -/
def execWrErrIndex (w : Word) (s : State) : Host.Outcome State Fault Refusal :=
  hostAccess s (regWrite 0x0C w) s.ignoreWrite

/-- Write to IN_COUNT: ignored (20_memory.md R68). -/
def execWrInCount (w : Word) (s : State) : Host.Outcome State Fault Refusal :=
  hostAccess s (regWrite 0x14 w) s.ignoreWrite

/-- Write to OUT_DATA: ignored (20_memory.md R68). -/
def execWrOutData (w : Word) (s : State) : Host.Outcome State Fault Refusal :=
  hostAccess s (regWrite 0x18 w) s.ignoreWrite

/-- Write to OUT_COUNT: ignored (20_memory.md R68). -/
def execWrOutCount (w : Word) (s : State) : Host.Outcome State Fault Refusal :=
  hostAccess s (regWrite 0x1C w) s.ignoreWrite

/-- A bus error: no state of the block changes, BUSY or not; the host is told, and the run has faulted (20_memory.md R65, 60_exceptions.md R233;
log 6). -/
def execBusError (_a : Access) (s : State) : Host.Outcome State Fault Refusal :=
  .next s.reportBusError

end Sys2Proof.Machine
end

