-- ==== Sys2Proof/Machine/Dispatch.lean ====
section
/-!
DEFINITION. One arm per instruction: a command's completion (40_command_lifecycle.md R114), a host access (45_host_interface.md R205).
-/

namespace Sys2Proof.Machine

open Sys2Proof

def exec (i : Instr) (s : State) : Host.Outcome State Fault Refusal :=
  match i with
  | .build => Sys2Proof.Machine.execBuild s
  | .encode => Sys2Proof.Machine.execEncode s
  | .decode => Sys2Proof.Machine.execDecode s
  | .readFreq sym => Sys2Proof.Machine.execReadFreq sym s
  | .readCode sym => Sys2Proof.Machine.execReadCode sym s
  | .illegal op rsv0 sym rsv1 => Sys2Proof.Machine.execIllegal op rsv0 sym rsv1 s
  | .wrCmd w => Sys2Proof.Machine.execWrCmd w s
  | .rdStatus => Sys2Proof.Machine.execRdStatus s
  | .rdResult => Sys2Proof.Machine.execRdResult s
  | .rdErrIndex => Sys2Proof.Machine.execRdErrIndex s
  | .wrInData w => Sys2Proof.Machine.execWrInData w s
  | .rdInCount => Sys2Proof.Machine.execRdInCount s
  | .rdOutData => Sys2Proof.Machine.execRdOutData s
  | .rdOutCount => Sys2Proof.Machine.execRdOutCount s
  | .rdWriteOnly reg => Sys2Proof.Machine.execRdWriteOnly reg s
  | .wrStatus w => Sys2Proof.Machine.execWrStatus w s
  | .wrResult w => Sys2Proof.Machine.execWrResult w s
  | .wrErrIndex w => Sys2Proof.Machine.execWrErrIndex w s
  | .wrInCount w => Sys2Proof.Machine.execWrInCount w s
  | .wrOutData w => Sys2Proof.Machine.execWrOutData w s
  | .wrOutCount w => Sys2Proof.Machine.execWrOutCount w s
  | .busError a => Sys2Proof.Machine.execBusError a s

end Sys2Proof.Machine
end

