-- ==== Sys2Proof/Machine/Schedule.lean ====
section
/-!
DEFINITION. Which event comes next: the engine's completion, the held access, or what the outside world does (40_command_lifecycle.md R111 to R113,
20_memory.md R72). The choice the spec leaves open is a free value (log 3).
-/

namespace Sys2Proof.Machine

open Sys2Proof

/-- The next event, with the state it starts from. -/
inductive Fetched where
  /-- Nothing: BUSY = 0, no access held, nothing to come. The engine has no step (40_command_lifecycle.md R113). -/
  | idle
  /-- The completion of the command in PEND. -/
  | command (s : State)
  /-- An access of the host. -/
  | access (a : Access) (s : State)
  /-- The reset signal. -/
  | reset (s : State)
  deriving DecidableEq, Repr

/-- The next thing the outside world does, taken from the list (20_memory.md R72: one at a time, in the order issued). -/
def State.fromOutside (s : State) : Fetched :=
  match s.events with
  | [] => .idle
  | .access a :: es => .access a { s with events := es }
  | .reset :: es => .reset { s with events := es }

/-- While BUSY = 1 an outside event can come before the completion: any event while no access is held, and reset alone while one is, because the
host then issues no later access (40_command_lifecycle.md R111, 70_reset_and_hazards.md R251, R252). -/
def State.contested (s : State) : Bool :=
  match s.held, s.events with
  | none, _ :: _ => true
  | some _, .reset :: _ => true
  | _, _ => false

/-- One free value has been drawn. -/
def State.drawn (s : State) : State := { s with draws := s.draws + 1 }

/-- The next event. While BUSY = 1 the engine moves, unless an outside event can come first and the free choice says that it does (log 3). While
BUSY = 0 a held access is performed before anything else (40_command_lifecycle.md R111; log 13). -/
def State.fetch (s : State) : Fetched :=
  if s.busy then
    if s.contested then
      if Config.engineFirst s.draws then .command s.drawn else s.drawn.fromOutside
    else .command s
  else match s.held with
    | some a => .access a { s with held := none }
    | none => s.fromOutside

/-- The state in which the given command word is the one the engine completes next: it is pending, and no outside event comes first. -/
def State.placeCommand (s : State) (w : Word) : State := { s with busy := true, pend := w, events := [] }

/-- The state in which the given access is the next thing that happens. -/
def State.placeAccess (s : State) (a : Access) : State :=
  { s with busy := false, held := none, events := .access a :: s.events }

end Sys2Proof.Machine
end

