-- ==== Sys2Proof/Machine/Step.lean ====
section
/-!
DEFINITION. One step: the next event of the total order of host accesses, engine completions and resets (20_memory.md R72), and placing an
instruction so that the next step runs it.
-/

namespace Sys2Proof.Machine

open Sys2Proof

/-- One step. With nothing to happen the machine is idle and its state stays (40_command_lifecycle.md R113, 60_exceptions.md R245; log 12). -/
def step (s : State) : Host.Outcome State Fault Refusal :=
  match s.fetch with
  | .idle => .next s
  | .command s' => exec (decodeCommand s'.pend) s'
  | .access a s' => exec (decodeAccess a) s'
  | .reset s' => .next s'.takeReset

/-- The state whose next step runs the instruction of these bits (log 16): a command word is pending, an access is the next event. -/
def State.withFetchWord (s : State) (nbits w : Nat) : State :=
  match tableEncoded nbits w with
  | .command c => s.placeCommand c
  | .access a => s.placeAccess a

end Sys2Proof.Machine
end

