-- ==== Sys2Proof/Machine/HostProgram.lean ====
section
/-!
DEFINITION. The host-program syntax of 30_encoding.md R101 and R102 as lists of accesses. WAIT and DRAIN repeat as often as the values read say; that
repetition is the host's control flow (40_command_lifecycle.md R120), so here it is an argument.
-/

namespace Sys2Proof.Machine

open Sys2Proof

/-- The registers of 20_memory.md R61 by name. -/
inductive Reg where
  | cmd
  | status
  | result
  | errIndex
  | inData
  | inCount
  | outData
  | outCount
  deriving DecidableEq, Repr

/-- offset(reg) (20_memory.md R61). -/
def Reg.offset : Reg → BitVec 8
  | .cmd => 0x00
  | .status => 0x04
  | .result => 0x08
  | .errIndex => 0x0C
  | .inData => 0x10
  | .inCount => 0x14
  | .outData => 0x18
  | .outCount => 0x1C

/-- `WR reg, v` (30_encoding.md R101). -/
def hostWr (r : Reg) (v : Word) : List Access := [regWrite r.offset v]

/-- `RD reg` (30_encoding.md R101). -/
def hostRd (r : Reg) : List Access := [regRead r.offset]

/-- `BUILD`. -/
def hostBuild : List Access := hostWr .cmd 0x00000001

/-- `ENCODE`. -/
def hostEncode : List Access := hostWr .cmd 0x00000002

/-- `DECODE`. -/
def hostDecode : List Access := hostWr .cmd 0x00000003

/-- `READ_FREQ s`: WR CMD, 0x00000004 | (s << 8). -/
def hostReadFreq (s : Byte) : List Access := hostWr .cmd (0x00000004#32 ||| (s.zeroExtend 32 <<< 8))

/-- `READ_CODE s`: WR CMD, 0x00000005 | (s << 8). -/
def hostReadCode (s : Byte) : List Access := hostWr .cmd (0x00000005#32 ||| (s.zeroExtend 32 <<< 8))

/-- `PUSH u`: WR IN_DATA, zext_32(u) (30_encoding.md R102). -/
def hostPush (u : Byte) : List Access := hostWr .inData (u.zeroExtend 32)

/-- `PUSHS "str"`: PUSH for each unit, first unit first (R102). -/
def hostPushs (us : List Byte) : List Access := us.flatMap hostPush

/-- `WAIT` that polls k times (R102). -/
def hostWait (k : Nat) : List Access := (List.replicate k (hostRd .status)).flatten

/-- `DRAIN` of an OBUF whose OUT_COUNT reads k (R102). -/
def hostDrain (k : Nat) : List Access := hostRd .outCount ++ (List.replicate k (hostRd .outData)).flatten

/-- A host program as events: its accesses in order (20_memory.md R72). -/
def hostEvents (p : List Access) : List Event := p.map .access

end Sys2Proof.Machine
end

