-- ==== Sys2Proof/Machine/Platform.lean ====
section
/-!
DEFINITION. Several instances on one platform (10_state.md R47, 20_memory.md R79, 60_exceptions.md R243): a list of states that share nothing, and the
routing of a platform address by the instances' BASE (00_scope.md R7, R13). Two instances with equal draw counters draw equal free values, a DESIGN
CHOICE (log 22).
-/

namespace Sys2Proof.Machine

open Sys2Proof

/-- The index of the instance whose window holds the address; the windows are disjoint (20_memory.md R79). -/
def instanceOf (p : List State) (addr : Nat) : Option Nat :=
  p.findIdx? fun s => (windowOffset s.cfg addr).isSome

/-- The access reaches the instance: it is the next thing the host does there, after what it has already issued (20_memory.md R72). -/
def State.issue (s : State) (a : Access) : State := { s with events := s.events ++ [.access a] }

/-- A platform read of n bytes reaches the instance whose window holds the address; no other instance sees it. -/
def platformRead (p : List State) (addr n : Nat) : List State :=
  match instanceOf p addr with
  | none => p
  | some k => p.modify k fun s => match memRead s.cfg addr n with
    | none => s
    | some a => s.issue a

/-- A platform write of n bytes reaches the instance whose window holds the address; no other instance sees it. -/
def platformWrite (p : List State) (addr n : Nat) (v : Word) : List State :=
  match instanceOf p addr with
  | none => p
  | some k => p.modify k fun s => match memWrite s.cfg addr n v with
    | none => s
    | some a => s.issue a

/-- Instance k makes a step; a stopped instance keeps its state. -/
def platformStep (p : List State) (k : Nat) : List State :=
  p.modify k fun s => match step s with
    | .next t => t
    | .fault _ => s
    | .refused _ => s

end Sys2Proof.Machine
end

