-- ==== Sys2Proof/Safety.lean ====
section
/-!
DEFINITION. What counts as a good state and a good run, in the terms the claims use: the built-state invariant (10_state.md R43, R44), the buffer
bounds (R33, R35), the held access (40_command_lifecycle.md R111), the end of a run (R123), walks of the tree, and the trees that a Huffman tree is
compared with (41_build.md R140).
-/

namespace Sys2Proof.Machine

open Sys2Proof

/-! ### Runs -/

/-- The host program has ended: nothing is still to come or held, and BUSY = 0 (40_command_lifecycle.md R123). DESIGN CHOICE (log 23): a reset
still to come belongs to the run, so the run ends after it; R123 speaks of the host's last access alone. -/
abbrev RunEnded (s : State) : Prop := s.events = [] ∧ s.held = none ∧ s.busy = false

/-- The run has ended normally: a run in which a bus error occurred has faulted, whatever follows (40_command_lifecycle.md R123). -/
abbrev RunEndedNormally (s : State) : Prop := RunEnded s ∧ s.busFault = false

/-! ### The invariant -/

/-- The buffers are within their depths and the parameters within their constraints (10_state.md R33, R35; 00_scope.md R7). -/
abbrev BuffersFit (s : State) : Prop :=
  s.cfg.WellFormed ∧ s.ibuf.length ≤ s.cfg.ibufDepth ∧ s.obuf.length ≤ s.cfg.obufDepth

/-- The tables are those of a successful BUILD of input `u` (10_state.md R43 (a), (b), (e); 41_build.md R144). -/
structure BuiltFrom (s : State) (u : List Byte) : Prop where
  nonempty : u ≠ []
  fits : u.length ≤ s.cfg.ibufDepth
  freq : s.freq = count u
  nodes : ∀ i, i < (tree (count u)).nodes.length → s.node[i]? = (tree (count u)).nodes[i]?
  nodeCount : s.nodeCount = BitVec.ofNat 10 (tree (count u)).nodes.length
  root : s.root = BitVec.ofNat 9 (tree (count u)).root
  code : s.code = codes (tree (count u))

/-- While BUILT = 1 the tables are a BUILD's (10_state.md R43); while BUILT = 0 they are the reset tables (R44, R46). -/
structure TablesAgree (s : State) : Prop where
  built : s.built = true → ∃ u, BuiltFrom s u
  unbuilt : s.built = false →
    s.freq = Vector.replicate 256 0 ∧ s.code = Vector.replicate 256 CodeRec.empty ∧ s.nodeCount = 0

/-- A held access is a legal one and no STATUS read (40_command_lifecycle.md R111: a bus error is not held). -/
abbrev HeldIsHoldable (s : State) : Prop :=
  ∀ a, s.held = some a → a.isBusError = false ∧ decodeAccess a ≠ .rdStatus

/-- The invariant of the machine. -/
structure Inv (s : State) : Prop where
  buffers : BuffersFit s
  tables : TablesAgree s
  held : HeldIsHoldable s

/-! ### Walks of the tree in NODE -/

/-- Following a path of markers from node `i`, one child at a time (41_build.md R141; 10_state.md R43 (e)). -/
def State.follow (s : State) : BitVec 9 → List Marker → Option (BitVec 9)
  | i, [] => some i
  | i, m :: ms =>
    match s.nodeAt i with
    | none => none
    | some n =>
      match n.child m with
      | none => none
      | some t => s.follow t ms

/-- Node `i` is a leaf that holds symbol `v`. -/
def State.IsLeafOf (s : State) (i : BitVec 9) (v : Byte) : Prop :=
  ∃ n, s.nodeAt i = some n ∧ n.leaf = true ∧ n.sym = v

/-- Index `c` is not the child of the node that the marker selects. -/
abbrev NodeRec.notChild (n : NodeRec) (m : Marker) (c : BitVec 9) : Prop := n.child m ≠ some c

/-- The decoder, in node `cur`, reads the markers `ms`, emits `out` and is then in node `c`: the transitions of 43_decode.md R177 to R180 as a
relation. -/
inductive Emits (s : State) : BitVec 9 → List Marker → List Byte → BitVec 9 → Prop where
  | nil (cur : BitVec 9) : Emits s cur [] [] cur
  | inner {cur t c : BitVec 9} {n k : NodeRec} {m : Marker} {ms : List Marker} {out : List Byte}
      (hn : s.nodeAt cur = some n) (hc : n.child m = some t) (hk : s.nodeAt t = some k)
      (hl : k.leaf = false) (rest : Emits s t ms out c) : Emits s cur (m :: ms) out c
  | leaf {cur t c : BitVec 9} {n k : NodeRec} {m : Marker} {ms : List Marker} {out : List Byte}
      (hn : s.nodeAt cur = some n) (hc : n.child m = some t) (hk : s.nodeAt t = some k)
      (hl : k.leaf = true) (rest : Emits s s.root ms out c) : Emits s cur (m :: ms) (k.sym :: out) c

/-! ### Trees to compare with -/

/-- A binary tree with a symbol at each leaf (41_build.md R140: "every binary tree whose leaves are the n symbols"). -/
inductive SymTree where
  | leaf (v : Byte)
  | node (l r : SymTree)
  deriving DecidableEq, Repr

/-- The symbols at the leaves, from left to right. -/
def SymTree.symbols : SymTree → List Byte
  | .leaf v => [v]
  | .node l r => l.symbols ++ r.symbols

/-- The weighted path length Σ freq · depth, with the root at depth `d` (41_build.md R140). -/
def SymTree.cost (freq : Byte → Nat) (d : Nat) : SymTree → Nat
  | .leaf v => freq v * d
  | .node l r => l.cost freq (d + 1) + r.cost freq (d + 1)

/-- The weighted length of a code table, Σ FREQ[v] · len(CODE[v]) over all symbols (00_scope.md R9, 41_build.md R140). -/
def weightedLength (f : Vector Word 256) (c : Vector CodeRec 256) : Nat :=
  (symbolsDown.map fun v => (entry f v).toNat * (entry c v).len.toNat).sum

/-- The sum of the freq fields of NODE[n..NODE_COUNT−1], the internal nodes of a tree of n ≥ 2 symbols (41_build.md R139 (a), R140). -/
def internalSum (s : State) (n : Nat) : Nat :=
  (((s.node.toList.take s.nodeCount.toNat).drop n).map fun r => r.freq.toNat).sum

end Sys2Proof.Machine
end

