-- ==== Sys2Proof/Certificates/Slice0/Obligations.lean ====
section
/-!
DEFINITION. The statements for the provers: what the numbered rules of spec/ say the block does. In a completion's next state PEND and the draw
counter are whatever the free values give, so those two fields are bound by an existential (log 4, log 9).
-/

open Sys2Proof Sys2Proof.Machine

/-! ### Encodings -/

/-- Decoding the encoding of a well-formed instruction gives it back, whatever its operands (30_encoding.md R86, R89; 20_memory.md R61). -/
def Obligations.DecodeOfEncodeGivesInstr : Prop :=
  ∀ i : Instr, i.wellFormed = true → decode (encode i) = i

/-- Every command word and every access decodes to a well-formed instruction whose encoding is that word or access (30_encoding.md R89: "The
classification is total"). -/
def Obligations.EncodeOfDecodeGivesWord : Prop :=
  ∀ e : Encoded, (decode e).wellFormed = true ∧ encode (decode e) = e

/-- 30_encoding.md R86: the legal command words, and no others. -/
def Obligations.LegalCommandWordsAreListed : Prop :=
  decodeCommand 0x00000001#32 = .build ∧
  decodeCommand 0x00000002#32 = .encode ∧
  decodeCommand 0x00000003#32 = .decode ∧
  (∀ s : Byte, decodeCommand (0x00000004#32 ||| (s.zeroExtend 32 <<< 8)) = .readFreq s) ∧
  (∀ s : Byte, decodeCommand (0x00000005#32 ||| (s.zeroExtend 32 <<< 8)) = .readCode s) ∧
  (∀ w : Word, w ≠ 0x00000001#32 → w ≠ 0x00000002#32 → w ≠ 0x00000003#32 →
    (∀ s : Byte, w ≠ 0x00000004#32 ||| (s.zeroExtend 32 <<< 8)) →
    (∀ s : Byte, w ≠ 0x00000005#32 ||| (s.zeroExtend 32 <<< 8)) →
    ∃ op rsv0 sym rsv1, decodeCommand w = .illegal op rsv0 sym rsv1)

/-- 30_encoding.md R89: the tests on a command word, in their order, with what the word's completion records. -/
def Obligations.CommandWordTestsInOrder : Prop :=
  ∀ (w : Word) (s : State),
    let op := w.toNat % 16
    let rsv0 := w.toNat / 16 % 16
    let sym := w.toNat / 256 % 256
    let rsv1 := w.toNat / 65536
    if op = 0 ∨ 6 ≤ op then
      ∃ p k, exec (decodeCommand w) s = .next { s with
        busy := false, err := .illegalCommand, detail := .badOpcode, errIndex := 0, result := 0, pend := p, draws := k }
    else if rsv0 ≠ 0 ∨ rsv1 ≠ 0 then
      ∃ p k, exec (decodeCommand w) s = .next { s with
        busy := false, err := .illegalCommand, detail := .rsvField, errIndex := 0, result := 0, pend := p, draws := k }
    else if (op = 1 ∨ op = 2 ∨ op = 3) ∧ sym ≠ 0 then
      ∃ p k, exec (decodeCommand w) s = .next { s with
        busy := false, err := .illegalCommand, detail := .rsvField, errIndex := 0, result := 0, pend := p, draws := k }
    else decodeCommand w =
      if op = 1 then .build else if op = 2 then .encode else if op = 3 then .decode
      else if op = 4 then .readFreq (BitVec.ofNat 8 sym) else .readCode (BitVec.ofNat 8 sym)

/-- 20_memory.md R61, R69: the register map, both directions of the eight registers. -/
def Obligations.RegisterMapDecodes : Prop :=
  ∀ v : Word,
    decodeAccess (.write 32 0x00 v) = .wrCmd v ∧ decodeAccess (.read 32 0x00) = .rdWriteOnly .cmd ∧
    decodeAccess (.read 32 0x04) = .rdStatus ∧ decodeAccess (.write 32 0x04 v) = .wrStatus v ∧
    decodeAccess (.read 32 0x08) = .rdResult ∧ decodeAccess (.write 32 0x08 v) = .wrResult v ∧
    decodeAccess (.read 32 0x0C) = .rdErrIndex ∧ decodeAccess (.write 32 0x0C v) = .wrErrIndex v ∧
    decodeAccess (.write 32 0x10 v) = .wrInData v ∧ decodeAccess (.read 32 0x10) = .rdWriteOnly .inData ∧
    decodeAccess (.read 32 0x14) = .rdInCount ∧ decodeAccess (.write 32 0x14 v) = .wrInCount v ∧
    decodeAccess (.read 32 0x18) = .rdOutData ∧ decodeAccess (.write 32 0x18 v) = .wrOutData v ∧
    decodeAccess (.read 32 0x1C) = .rdOutCount ∧ decodeAccess (.write 32 0x1C v) = .wrOutCount v

/-- Words of 95_test_vectors.md (A-1, A-2, A-8, H-2 to H-7) decode to the instructions they stand for. -/
def Obligations.VectorWordsDecode : Prop :=
  decodeCommand 0x00006C04#32 = .readFreq 0x6C ∧ decodeCommand 0x00007705#32 = .readCode 0x77 ∧
  decodeCommand 0x00003004#32 = .readFreq 0x30 ∧ decodeCommand 0x00000101#32 = .illegal 1 0 1 0 ∧
  decodeCommand 0x00000014#32 = .illegal 4 1 0 0 ∧ decodeCommand 0x00010004#32 = .illegal 4 0 0 1 ∧
  decodeCommand 0x00000006#32 = .illegal 6 0 0 0 ∧ decodeCommand 0x000000F0#32 = .illegal 0 15 0 0 ∧
  decodeCommand 0x00010000#32 = .illegal 0 0 0 1 ∧ decodeAccess (.read 8 0x04) = .busError (.read 8 0x04) ∧
  decodeAccess (.read 32 0x06) = .busError (.read 32 0x06) ∧ decodeAccess (.read 32 0x20) = .busError (.read 32 0x20)

/-- 30_encoding.md R101, R102: the host-program mnemonics stand for writes of their command words and pushes. -/
def Obligations.HostMnemonicsExpand : Prop :=
  (hostBuild.map decodeAccess = [.wrCmd 0x00000001]) ∧ (hostEncode.map decodeAccess = [.wrCmd 0x00000002]) ∧
  (hostDecode.map decodeAccess = [.wrCmd 0x00000003]) ∧
  (∀ s : Byte, ∃ w, hostReadFreq s = [.write 32 0x00 w] ∧ decodeCommand w = .readFreq s) ∧
  (∀ s : Byte, ∃ w, hostReadCode s = [.write 32 0x00 w] ∧ decodeCommand w = .readCode s) ∧
  (∀ us : List Byte, (hostPushs us).map decodeAccess = us.map fun u => .wrInData (u.zeroExtend 32)) ∧
  (∀ k : Nat, (hostDrain k).map decodeAccess = .rdOutCount :: List.replicate k .rdOutData)

/-- 30_encoding.md R98: the 61-bit layout of a NODE record loses nothing of it, and the fields stand at the bits R98 gives. -/
def Obligations.NodeLayoutRoundTrips : Prop :=
  ∀ n : NodeRec, NodeRec.unpack n.pack = n ∧
    n.pack.toNat / 2 ^ 60 = n.leaf.toNat ∧ n.pack.toNat / 2 ^ 52 % 2 ^ 8 = n.sym.toNat ∧
    n.pack.toNat / 2 ^ 20 % 2 ^ 32 = n.freq.toNat ∧ n.pack.toNat / 2 ^ 19 % 2 = n.left.isSome.toNat ∧
    (∀ l, n.left = some l → n.pack.toNat / 2 ^ 10 % 2 ^ 9 = l.toNat) ∧
    n.pack.toNat / 2 ^ 9 % 2 = n.right.isSome.toNat ∧ (∀ r, n.right = some r → n.pack.toNat % 2 ^ 9 = r.toNat)

/-! ### Steps -/

/-- A step runs the decoded next event. BUSY = 1: the completion of PEND, unless an outside event can come first, and then it is one of the two.
BUSY = 0: the held access, else the next outside event, else nothing (40_command_lifecycle.md R111 to R114, 20_memory.md R72). -/
def Obligations.StepRunsNextEvent : Prop :=
  (∀ s : State, s.busy = true → s.contested = false → step s = exec (decodeCommand s.pend) s) ∧
  (∀ (s : State) (a : Access) (es : List Event), s.busy = true → s.held = none → s.events = .access a :: es →
    step s = exec (decodeCommand s.pend) { s with draws := s.draws + 1 } ∨
    step s = exec (decodeAccess a) { s with draws := s.draws + 1, events := es }) ∧
  (∀ (s : State) (a : Access), s.busy = false → s.held = some a →
    step s = exec (decodeAccess a) { s with held := none }) ∧
  (∀ (s : State) (a : Access) (es : List Event), s.busy = false → s.held = none → s.events = .access a :: es →
    step s = exec (decodeAccess a) { s with events := es }) ∧
  (∀ s : State, s.busy = false → s.held = none → s.events = [] → step s = .next s)

/-- An instruction placed by `withFetchWord` is the one the next step runs, whatever the state (log 16). -/
def Obligations.PlacedWordRunsNext : Prop :=
  ∀ (s : State) (nbits w : Nat), ∃ i, decodeTableWord nbits w = some i ∧
    step (s.withFetchWord nbits w) =
      if nbits ≤ 8 then exec i { s with busy := false, held := none }
      else exec i { s with busy := true, pend := BitVec.ofNat 32 w, events := [] }

/-- 40_command_lifecycle.md R111: a legal access other than a STATUS read is held while BUSY = 1; the host issues no later access until the
completion, after which the held access is performed first; a bus error is not held. -/
def Obligations.AccessHeldUntilCompletion : Prop :=
  (∀ (s : State) (i : Instr) (a : Access), s.busy = true → i.wellFormed = true → encode i = .access a →
    i ≠ .rdStatus → (∀ b, i ≠ .busError b) → exec i s = .next { s with held := some a }) ∧
  (∀ (s : State) (a : Access), s.busy = true → s.held = some a → (∀ es, s.events ≠ .reset :: es) →
    step s = exec (decodeCommand s.pend) s) ∧
  (∀ (s : State) (a : Access), s.busy = false → s.held = some a →
    step s = exec (decodeAccess a) { s with held := none }) ∧
  (∀ (s : State) (b : Access), ∃ t, exec (.busError b) s = .next t ∧ t.held = s.held)

/-- 40_command_lifecycle.md R110, 45_host_interface.md R206: acceptance writes PEND and BUSY and nothing else; every word is accepted. -/
def Obligations.WriteCmdAccepts : Prop :=
  ∀ (s : State) (w : Word), s.busy = false →
    exec (.wrCmd w) s = .next { s with pend := w, busy := true, resp := s.resp ++ [.done] }

/-- 40_command_lifecycle.md R112: a STATUS read right after an acceptance is performed at once and returns BUSY = 1 with every other field as it
was just before the acceptance; and while BUSY = 1 no access of any kind changes BUSY, BUILT, IN_OVF, ERR or DETAIL. -/
def Obligations.StatusReadServedWhileBusy : Prop :=
  (∀ (s : State) (w : Word), s.busy = false → ∃ t u, exec (.wrCmd w) s = .next t ∧ t.busy = true ∧
    exec .rdStatus t = .next u ∧ u = { t with resp := t.resp ++ [.data (s.status ||| 0x00000001#32)] }) ∧
  (∀ s : State, s.busy = true → exec .rdStatus s = .next { s with resp := s.resp ++ [.data s.status] } ∧
    s.status.getLsbD 0 = true) ∧
  (∀ (s t : State) (i : Instr) (a : Access), s.busy = true → encode i = .access a → exec i s = .next t →
    t.status = s.status)

/-- 45_host_interface.md R207 with 10_state.md R23, R29 and the numbers of 30_encoding.md R93, R94: the STATUS word a read returns, field by field,
BUSY or not, and no change of state but the answer. -/
def Obligations.StatusWordLayout : Prop :=
  ∀ s : State, ∃ v : Word, exec .rdStatus s = .next { s with resp := s.resp ++ [.data v] } ∧
    v.getLsbD 0 = s.busy ∧ v.getLsbD 1 = s.built ∧ v.getLsbD 2 = s.inOvf ∧ v.getLsbD 3 = false ∧
    v.toNat / 16 % 16 = (match s.err with
      | .ok => 0 | .invalidInput => 1 | .notBuilt => 2 | .unknownSymbol => 3 | .invalidEncoding => 4
      | .incompleteSequence => 5 | .capacityExceeded => 6 | .illegalCommand => 7) ∧
    v.toNat / 256 = (match s.detail with
      | .none => 0 | .badMarker => 1 | .noChild => 2 | .inOverflow => 3 | .outOverflow => 4
      | .badOpcode => 5 | .rsvField => 6)

/-- 45_host_interface.md R208, R209, R212, R214 with 10_state.md R34, R36: the reads of RESULT, ERR_INDEX, IN_COUNT and OUT_COUNT return the register
and change nothing. -/
def Obligations.RegisterReadsReturnRegisters : Prop :=
  ∀ s : State, s.busy = false →
    exec .rdResult s = .next { s with resp := s.resp ++ [.data s.result] } ∧
    exec .rdErrIndex s = .next { s with resp := s.resp ++ [.data s.errIndex] } ∧
    exec .rdInCount s = .next { s with resp := s.resp ++ [.data (BitVec.ofNat 32 s.ibuf.length)] } ∧
    exec .rdOutCount s = .next { s with resp := s.resp ++ [.data (BitVec.ofNat 32 s.obuf.length)] }

/-- 45_host_interface.md R210, R211 with 30_encoding.md R91: a push appends bits 7:0 of the word while IBUF has room, else it sets IN_OVF and discards
the unit; nothing else changes. -/
def Obligations.PushAppendsOrOverflows : Prop :=
  ∀ (s : State) (w : Word), s.busy = false →
    exec (.wrInData w) s = .next (
      if s.ibuf.length < s.cfg.ibufDepth then
        { s with ibuf := s.ibuf ++ [BitVec.ofNat 8 (w.toNat % 256)], resp := s.resp ++ [.done] }
      else { s with inOvf := true, resp := s.resp ++ [.done] })

/-- 45_host_interface.md R213 with 30_encoding.md R92: a pop returns 0x100 | OBUF[0] and removes it; of an empty OBUF it returns 0 and changes nothing. -/
def Obligations.PopReturnsFirstUnit : Prop :=
  ∀ s : State, s.busy = false →
    (s.obuf = [] → exec .rdOutData s = .next { s with resp := s.resp ++ [.data 0] }) ∧
    (∀ u us, s.obuf = u :: us →
      exec .rdOutData s = .next { s with obuf := us, resp := s.resp ++ [.data (BitVec.ofNat 32 (256 + u.toNat))] })

/-- 20_memory.md R69: reads of CMD and IN_DATA return 0 and change nothing. -/
def Obligations.WriteOnlyReadsReturnZero : Prop :=
  ∀ (s : State) (r : WriteOnlyReg), s.busy = false →
    exec (.rdWriteOnly r) s = .next { s with resp := s.resp ++ [.data 0x00000000#32] }

/-- 20_memory.md R68: the writes of the six read-only registers are ignored: no state changes, and none is a bus error. -/
def Obligations.ReadOnlyWritesIgnored : Prop :=
  ∀ (s : State) (w : Word), s.busy = false →
    exec (.wrStatus w) s = .next { s with resp := s.resp ++ [.done] } ∧
    exec (.wrResult w) s = .next { s with resp := s.resp ++ [.done] } ∧
    exec (.wrErrIndex w) s = .next { s with resp := s.resp ++ [.done] } ∧
    exec (.wrInCount w) s = .next { s with resp := s.resp ++ [.done] } ∧
    exec (.wrOutData w) s = .next { s with resp := s.resp ++ [.done] } ∧
    exec (.wrOutCount w) s = .next { s with resp := s.resp ++ [.done] }

/-- 20_memory.md R62 to R65, 60_exceptions.md R233: which accesses are bus errors, that one changes no state of the block, BUSY or not, and that the
recorded fault stays through every later step. -/
def Obligations.BusErrorsChangeNothingAndStay : Prop :=
  (∀ a : Access, decodeAccess a = .busError a ↔ a.width ≠ 32 ∨ a.off.toNat % 4 ≠ 0 ∨ 0x20 ≤ a.off.toNat) ∧
  (∀ (a : Access) (s : State),
    exec (.busError a) s = .next { s with busFault := true, resp := s.resp ++ [.busError] }) ∧
  (∀ s t : State, step s = .next t → s.busFault = true → t.busFault = true)

/-! ### Reset -/

/-- 10_state.md R46: the reset values that the spec states, for an instance of any parameters. PEND, NODE and ROOT, which R46 leaves unspecified,
are not mentioned. -/
def Obligations.ResetLeavesTableValues : Prop :=
  ∀ s : State, (s = State.reset ∨ ∃ p : Config.Params, s = State.resetOf p) →
    s.busy = false ∧ s.built = false ∧ s.inOvf = false ∧ s.err = .ok ∧ s.detail = .none ∧ s.status = 0 ∧
    s.result = 0x00000000#32 ∧ s.errIndex = 0x00000000#32 ∧ s.ibuf = [] ∧ s.inCount = 0 ∧ s.obuf = [] ∧
    s.outCount = 0 ∧ (∀ v, entry s.freq v = 0) ∧ (∀ v, (entry s.code v).len = 0 ∧ (entry s.code v).markers = []) ∧
    s.nodeCount = 0

/-- 70_reset_and_hazards.md R250 to R252: the reset event sets the block to the reset state but for the unspecified PEND, ROOT and NODE; a running
command has no effect; a held read is answered 0, a held write has no effect. While BUSY = 1 the completion may come first instead. -/
def Obligations.ResetEventSetsResetState : Prop :=
  ∀ (s : State) (es : List Event), s.events = .reset :: es → (s.busy = true ∨ s.held = none) →
    (∃ p r nd k, step s = .next { State.resetOf s.cfg with
      pend := p, root := r, node := nd, draws := k, events := es, busFault := s.busFault,
      resp := s.resp ++ (match s.held with
        | none => [] | some (.read _ _) => [.data 0x00000000#32] | some (.write _ _ _) => [.discarded]) }) ∨
    (s.busy = true ∧ step s = exec (decodeCommand s.pend) { s with draws := s.draws + 1 })

/-! ### Commands: records of errors -/

/-- 40_command_lifecycle.md R119, 60_exceptions.md R232: an illegal word completes with IllegalCommand and changes nothing but the record. -/
def Obligations.IllegalWordRecordsOnly : Prop :=
  ∀ (s : State) (op rsv0 : BitVec 4) (sym : Byte) (rsv1 : BitVec 16),
    (Instr.illegal op rsv0 sym rsv1).wellFormed = true →
    ∃ p k, exec (.illegal op rsv0 sym rsv1) s = .next { s with
      busy := false, err := .illegalCommand,
      detail := if op.toNat = 0 ∨ 6 ≤ op.toNat then .badOpcode else .rsvField,
      errIndex := 0, result := 0, pend := p, draws := k }

/-- 60_exceptions.md R227: ENCODE and DECODE while BUILT = 0, before every other check; BUILD and the accessors never raise NotBuilt. -/
def Obligations.UnbuiltRaisesNotBuilt : Prop :=
  (∀ s : State, s.built = false →
    (∃ p k, exec .encode s = .next { s with
      busy := false, err := .notBuilt, detail := .none, errIndex := 0, result := 0, pend := p, draws := k,
      ibuf := [], inOvf := false, obuf := [] }) ∧
    (∃ p k, exec .decode s = .next { s with
      busy := false, err := .notBuilt, detail := .none, errIndex := 0, result := 0, pend := p, draws := k,
      ibuf := [], inOvf := false, obuf := [] })) ∧
  (∀ (s t : State) (v : Byte), (exec .build s = .next t ∨ exec (.readFreq v) s = .next t ∨
    exec (.readCode v) s = .next t) → t.err ≠ .notBuilt)

/-- 41_build.md R146, 60_exceptions.md R226: BUILD's two errors in their order; every table, BUILT, and the tree stay, the buffers are emptied and
IN_OVF is cleared. No other error is possible. -/
def Obligations.FailedBuildKeepsTables : Prop :=
  ∀ s : State,
    (s.inOvf = true → ∃ p k, exec .build s = .next { s with
      busy := false, err := .capacityExceeded, detail := .inOverflow,
      errIndex := BitVec.ofNat 32 s.cfg.ibufDepth, result := 0, pend := p, draws := k,
      ibuf := [], inOvf := false, obuf := [] }) ∧
    (s.inOvf = false → s.ibuf = [] → ∃ p k, exec .build s = .next { s with
      busy := false, err := .invalidInput, detail := .none, errIndex := 0, result := 0, pend := p, draws := k,
      ibuf := [], inOvf := false, obuf := [] }) ∧
    (s.inOvf = false → s.ibuf ≠ [] → ∃ t, exec .build s = .next t ∧ t.err = .ok)

/-- 42_encode.md R161, R162; 60_exceptions.md R228, R231 (b): ENCODE's errors in their order: NotBuilt, IN_OVF, then the first index at which a check fails, an
unknown symbol before an output overflow. -/
def Obligations.EncodeErrorsInOrder : Prop :=
  (∀ s : State, s.built = false → ∃ t, exec .encode s = .next t ∧ t.err = .notBuilt) ∧
  ∀ s : State, s.built = true →
    (s.inOvf = true → ∃ p k, exec .encode s = .next { s with
      busy := false, err := .capacityExceeded, detail := .inOverflow,
      errIndex := BitVec.ofNat 32 s.cfg.ibufDepth, result := 0, pend := p, draws := k,
      ibuf := [], inOvf := false, obuf := [] }) ∧
    (∀ (pre post : List Byte) (u : Byte), s.inOvf = false → s.ibuf = pre ++ u :: post →
      (∀ v ∈ pre, (entry s.code v).len ≠ 0) → (pre.map fun v => (entry s.code v).len.toNat).sum ≤ s.cfg.obufDepth →
      ((entry s.code u).len = 0 → ∃ p k, exec .encode s = .next { s with
        busy := false, err := .unknownSymbol, detail := .none, errIndex := BitVec.ofNat 32 pre.length, result := 0,
        pend := p, draws := k, ibuf := [], inOvf := false, obuf := [] }) ∧
      ((entry s.code u).len ≠ 0 →
        s.cfg.obufDepth < (pre.map fun v => (entry s.code v).len.toNat).sum + (entry s.code u).len.toNat →
        ∃ p k, exec .encode s = .next { s with
          busy := false, err := .capacityExceeded, detail := .outOverflow,
          errIndex := BitVec.ofNat 32 pre.length, result := 0, pend := p, draws := k,
          ibuf := [], inOvf := false, obuf := [] }))

/-- 43_decode.md R176, R178, R179, R181, R183, R184: DECODE's errors in their order: NotBuilt, IN_OVF, then the first unit that fails, a bad marker before an
absent child, and an unfinished code last; RESULT counts the symbols decoded. -/
def Obligations.DecodeErrorsInOrder : Prop :=
  (∀ s : State, s.built = false → ∃ t, exec .decode s = .next t ∧ t.err = .notBuilt ∧ t.result = 0 ∧ t.obuf = []) ∧
  ∀ s : State, s.built = true →
    (s.inOvf = true → ∃ p k, exec .decode s = .next { s with
      busy := false, err := .capacityExceeded, detail := .inOverflow,
      errIndex := BitVec.ofNat 32 s.cfg.ibufDepth, result := 0, pend := p, draws := k,
      ibuf := [], inOvf := false, obuf := [] }) ∧
    (∀ (ms : List Marker) (out : List Byte) (c : BitVec 9), s.inOvf = false → Emits s s.root ms out c →
      (∀ (u : Byte) (post : List Byte), s.ibuf = ms.map Marker.unit ++ u :: post → u ≠ 0x30 → u ≠ 0x31 →
        ∃ p k, exec .decode s = .next { s with
          busy := false, err := .invalidEncoding, detail := .badMarker, errIndex := BitVec.ofNat 32 ms.length,
          result := BitVec.ofNat 32 out.length, pend := p, draws := k, ibuf := [], inOvf := false, obuf := [] }) ∧
      (∀ (m : Marker) (n : NodeRec) (post : List Byte), s.ibuf = ms.map Marker.unit ++ m.unit :: post →
        s.nodeAt c = some n → n.child m = none →
        ∃ p k, exec .decode s = .next { s with
          busy := false, err := .invalidEncoding, detail := .noChild, errIndex := BitVec.ofNat 32 ms.length,
          result := BitVec.ofNat 32 out.length, pend := p, draws := k, ibuf := [], inOvf := false, obuf := [] }) ∧
      (s.ibuf = ms.map Marker.unit → c ≠ s.root →
        ∃ p k, exec .decode s = .next { s with
          busy := false, err := .incompleteSequence, detail := .none, errIndex := BitVec.ofNat 32 s.ibuf.length,
          result := BitVec.ofNat 32 out.length, pend := p, draws := k, ibuf := [], inOvf := false, obuf := [] }))

/-! ### Commands: successes -/

/-- 44_accessors.md R195, R198: READ_FREQ gives the entry in RESULT, built or not, and keeps every buffer. -/
def Obligations.ReadFreqReturnsCount : Prop :=
  ∀ (s : State) (v : Byte), ∃ p k, exec (.readFreq v) s = .next { s with
    busy := false, err := .ok, detail := .none, errIndex := 0, result := s.freq[v.toNat]'(v.isLt), pend := p, draws := k }

/-- 44_accessors.md R196, R198 with 30_encoding.md R97: READ_CODE puts the code's markers in OBUF, the step from the root first, and its length in
RESULT, built or not; IBUF and IN_OVF are kept. -/
def Obligations.ReadCodeReturnsCode : Prop :=
  ∀ (s : State) (v : Byte), ∃ p k, exec (.readCode v) s = .next { s with
    busy := false, err := .ok, detail := .none, errIndex := 0,
    result := BitVec.ofNat 32 (s.code[v.toNat]'(v.isLt)).len.toNat, pend := p, draws := k,
    obuf := (List.range (s.code[v.toNat]'(v.isLt)).len.toNat).map fun j =>
      if (s.code[v.toNat]'(v.isLt)).bits.getLsbD j then 0x31#8 else 0x30#8 }

/-- 42_encode.md R161, R163: ENCODE concatenates the codes of its input in order, one marker per unit; RESULT is the length; no table changes. -/
def Obligations.EncodeConcatenatesCodes : Prop :=
  ∀ s : State, s.built = true → s.inOvf = false → (∀ v ∈ s.ibuf, (entry s.code v).len ≠ 0) →
    (s.ibuf.map fun v => (entry s.code v).len.toNat).sum ≤ s.cfg.obufDepth →
    ∃ p k, exec .encode s = .next { s with
      busy := false, err := .ok, detail := .none, errIndex := 0,
      result := BitVec.ofNat 32 (s.ibuf.map fun v => (entry s.code v).len.toNat).sum, pend := p, draws := k,
      ibuf := [], inOvf := false,
      obuf := s.ibuf.flatMap fun v => (List.range (entry s.code v).len.toNat).map fun j =>
        if (entry s.code v).bits.getLsbD j then 0x31#8 else 0x30#8 }

/-- 43_decode.md R176, R177, R180: DECODE emits the symbol of each leaf its walk reaches and succeeds when the stream ends at the root; RESULT is the
number of symbols; no table changes. -/
def Obligations.DecodeEmitsLeafSymbols : Prop :=
  ∀ (s : State) (ms : List Marker) (out : List Byte), s.built = true → s.inOvf = false →
    s.ibuf = ms.map Marker.unit → Emits s s.root ms out s.root →
    ∃ p k, exec .decode s = .next { s with
      busy := false, err := .ok, detail := .none, errIndex := 0, result := BitVec.ofNat 32 out.length,
      pend := p, draws := k, ibuf := [], inOvf := false, obuf := out }

/-- 41_build.md R130, R131, R144: BUILD of a non-empty input succeeds, sets BUILT, empties the buffers, gives the number of distinct symbols, and writes
no state but the tables, NODE_COUNT and ROOT, which are those of the input alone. -/
def Obligations.BuildCommitsTables : Prop :=
  ∀ s : State, s.inOvf = false → s.ibuf ≠ [] → s.ibuf.length ≤ s.cfg.ibufDepth → s.cfg.WellFormed →
    ∃ p k f nd nc r c, exec .build s = .next { s with
      busy := false, built := true, err := .ok, detail := .none, errIndex := 0,
      result := BitVec.ofNat 32 s.ibuf.dedup.length, pend := p, draws := k, ibuf := [], inOvf := false, obuf := [],
      freq := f, node := nd, nodeCount := nc, root := r, code := c } ∧
      BuiltFrom { s with freq := f, node := nd, nodeCount := nc, root := r, code := c } s.ibuf

/-- 41_build.md R132, 10_state.md R37: after a BUILD every FREQ entry is the exact number of occurrences, and the entries sum to the input's length. -/
def Obligations.BuildCountsExactly : Prop :=
  ∀ s : State, s.inOvf = false → s.ibuf ≠ [] → s.ibuf.length ≤ s.cfg.ibufDepth → s.cfg.WellFormed →
    ∃ t, exec .build s = .next t ∧ (∀ v, (entry t.freq v).toNat = s.ibuf.count v) ∧
      (t.freq.toList.map BitVec.toNat).sum = s.ibuf.length

/-! ### The tree and the code table of a BUILD -/

/-- 41_build.md R134: NODE[0..n−1] are the leaves, one per distinct symbol, in descending symbol order, with their counts. -/
def Obligations.LeavesInDescendingOrder : Prop :=
  ∀ (s : State) (u : List Byte), BuiltFrom s u → s.cfg.WellFormed →
    ∃ vs : List Byte, vs.Pairwise (fun a b => b < a) ∧ (∀ v, v ∈ vs ↔ v ∈ u) ∧ 1 ≤ vs.length ∧
      vs.length ≤ min 256 u.length ∧
      ∀ k (h : k < vs.length), s.node[k]? =
        some { leaf := true, sym := vs[k], freq := BitVec.ofNat 32 (u.count vs[k]), left := none, right := none }

/-- 41_build.md R138: the tree of one distinct symbol. -/
def Obligations.SingleSymbolTreeHasOneChild : Prop :=
  ∀ (s : State) (u : List Byte) (x : Byte), BuiltFrom s u → s.cfg.WellFormed → (∀ v ∈ u, v = x) →
    s.nodeCount = 2 ∧ s.root = 1 ∧
    s.node[0]? = some { leaf := true, sym := x, freq := BitVec.ofNat 32 u.length, left := none, right := none } ∧
    s.node[1]? = some { leaf := false, sym := 0, freq := BitVec.ofNat 32 u.length, left := some 0, right := none }

/-- 41_build.md R135 to R137: with n ≥ 2 distinct symbols the tree has 2n − 1 nodes and its root is the last. Each internal node i has as left child the
least key (freq, index) among the nodes not yet taken, as right child the least of the others, and the sum of their frequencies. -/
def Obligations.MergesTakeLeastKeys : Prop :=
  ∀ (s : State) (u : List Byte), BuiltFrom s u → s.cfg.WellFormed → 2 ≤ u.dedup.length →
    s.nodeCount.toNat = 2 * u.dedup.length - 1 ∧ s.root.toNat = 2 * u.dedup.length - 2 ∧
    (∃ r, s.nodeAt s.root = some r ∧ r.freq.toNat = u.length) ∧
    ∀ i, u.dedup.length ≤ i → i ≤ 2 * u.dedup.length - 2 →
      ∃ (a b : BitVec 9) (na nb : NodeRec), a.toNat < i ∧ b.toNat < i ∧
        s.nodeAt a = some na ∧ s.nodeAt b = some nb ∧
        s.node[i]? = some { leaf := false, sym := 0, freq := na.freq + nb.freq, left := some a, right := some b } ∧
        na.freq.toNat + nb.freq.toNat < 2 ^ 32 ∧
        (∀ j nj, u.dedup.length ≤ j → j < i → s.node[j]? = some nj → ∀ m, nj.notChild m a ∧ nj.notChild m b) ∧
        (na.freq < nb.freq ∨ na.freq = nb.freq ∧ a < b) ∧
        (∀ (c : BitVec 9) (nc : NodeRec), c.toNat < i → c ≠ a → c ≠ b → s.nodeAt c = some nc →
          (∀ j nj, u.dedup.length ≤ j → j < i → s.node[j]? = some nj → ∀ m, nj.notChild m c) →
          (nb.freq < nc.freq ∨ nb.freq = nc.freq ∧ b < c))

/-- 41_build.md R139 (b), (d), (f): every node but the root is the child of exactly one internal node, with a greater index, and the root is internal. -/
def Obligations.EveryNodeHasOneParent : Prop :=
  ∀ (s : State) (u : List Byte), BuiltFrom s u → s.cfg.WellFormed →
    (∃ r, s.nodeAt s.root = some r ∧ r.leaf = false) ∧ s.root.toNat < s.nodeCount.toNat ∧
    (∀ (i : BitVec 9) (n : NodeRec) (m : Marker) (c : BitVec 9), i.toNat < s.nodeCount.toNat →
      s.nodeAt i = some n → n.child m = some c → c.toNat < i.toNat) ∧
    (∀ c : BitVec 9, c.toNat < s.nodeCount.toNat → c ≠ s.root →
      ∃! pm : BitVec 9 × Marker, pm.1.toNat < s.nodeCount.toNat ∧
        ∃ n, s.nodeAt pm.1 = some n ∧ n.child pm.2 = some c)

/-- 41_build.md R141, R143 (a), (d); 10_state.md R43 (d), (e): exactly the symbols of the input have a code, and it is the path from the root to the
symbol's leaf. -/
def Obligations.CodesAreLeafPaths : Prop :=
  ∀ (s : State) (u : List Byte), BuiltFrom s u → s.cfg.WellFormed → ∀ v : Byte,
    (v ∉ u → (entry s.code v).len = 0) ∧
    (v ∈ u → (entry s.code v).len ≠ 0 ∧
      ∃ l, s.follow s.root (entry s.code v).markers = some l ∧ s.IsLeafOf l v)

/-- 41_build.md R143 (b): no code is a prefix of another. -/
def Obligations.CodesArePrefixFree : Prop :=
  ∀ (s : State) (u : List Byte), BuiltFrom s u → s.cfg.WellFormed → ∀ v ∈ u, ∀ w ∈ u, v ≠ w →
    ¬ (entry s.code v).markers <+: (entry s.code w).markers

/-- 41_build.md R143 (c): with n ≥ 2 the code is complete. -/
def Obligations.CodeIsComplete : Prop :=
  ∀ (s : State) (u : List Byte), BuiltFrom s u → s.cfg.WellFormed → 2 ≤ u.dedup.length → ∀ ms : List Marker,
    (∃ v ∈ u, (entry s.code v).markers <+: ms) ∨ (∃ v ∈ u, ms <+: (entry s.code v).markers)

/-- 41_build.md R139 (e), 00_scope.md R8 (c): a code has at most max(1, n − 1) markers, so it fits CODE_MAX and the depths. -/
def Obligations.CodeLengthsAreBounded : Prop :=
  ∀ (s : State) (u : List Byte), BuiltFrom s u → s.cfg.WellFormed → ∀ v : Byte,
    (entry s.code v).len.toNat ≤ max 1 (u.dedup.length - 1) ∧ u.dedup.length ≤ 256 ∧
    (entry s.code v).len.toNat ≤ s.cfg.ibufDepth

/-- 41_build.md R140 (with G2): with n ≥ 2 the encoded length of the build input is the weighted path length, and that is the sum of the freq fields of
the internal nodes. -/
def Obligations.WeightedLengthIsInternalSum : Prop :=
  ∀ (s : State) (u : List Byte), BuiltFrom s u → s.cfg.WellFormed → 2 ≤ u.dedup.length →
    (u.map fun v => (entry s.code v).len.toNat).sum = weightedLength s.freq s.code ∧
    weightedLength s.freq s.code = internalSum s u.dedup.length

/-- 41_build.md R140: with n ≥ 2 no binary tree over the same symbols has a smaller weighted path length. -/
def Obligations.HuffmanTreeIsOptimal : Prop :=
  ∀ (s : State) (u : List Byte), BuiltFrom s u → s.cfg.WellFormed → 2 ≤ u.dedup.length →
    ∀ T : SymTree, T.symbols.Nodup → (∀ v, v ∈ T.symbols ↔ v ∈ u) →
      weightedLength s.freq s.code ≤ T.cost (fun v => (entry s.freq v).toNat) 0

/-! ### ENCODE and DECODE against one build -/

/-- 42_encode.md R165: the round trip. An input whose ENCODE succeeds and whose encoded form fits IBUF is what DECODE gives back. -/
def Obligations.DecodeInvertsEncode : Prop :=
  ∀ (s t : State) (u : List Byte), BuiltFrom s u → s.cfg.WellFormed →
    exec .encode s = .next t → t.err = .ok → t.obuf.length ≤ s.cfg.ibufDepth →
    ∃ t', exec .decode { t with ibuf := t.obuf } = .next t' ∧ t'.err = .ok ∧ t'.obuf = s.ibuf ∧
      t'.result = BitVec.ofNat 32 s.ibuf.length

/-- 43_decode.md R182: DECODE against the tree of a single symbol: MARK0 emits it, MARK1 selects the absent child, any other unit is no marker. -/
def Obligations.SingleSymbolDecode : Prop :=
  ∀ (s : State) (u : List Byte) (x : Byte) (j : Nat), BuiltFrom s u → s.cfg.WellFormed → (∀ v ∈ u, v = x) →
    s.built = true → s.inOvf = false →
    (s.ibuf = List.replicate j 0x30#8 → ∃ t, exec .decode s = .next t ∧ t.err = .ok ∧ t.obuf = List.replicate j x) ∧
    (∀ post, s.ibuf = List.replicate j 0x30#8 ++ 0x31#8 :: post → ∃ t, exec .decode s = .next t ∧
      t.err = .invalidEncoding ∧ t.detail = .noChild ∧ t.errIndex = BitVec.ofNat 32 j) ∧
    (∀ y post, s.ibuf = List.replicate j 0x30#8 ++ y :: post → y ≠ 0x30#8 → y ≠ 0x31#8 →
      ∃ t, exec .decode s = .next t ∧ t.err = .invalidEncoding ∧ t.detail = .badMarker ∧ t.errIndex = BitVec.ofNat 32 j) ∧
    (∀ t, exec .decode s = .next t → t.err ≠ .incompleteSequence)

/-- 42_encode.md R164 (f), R166: after a BUILD of one symbol its code is one MARK0, and k occurrences encode to k units of MARK0. -/
def Obligations.SingleSymbolEncode : Prop :=
  ∀ (s : State) (u : List Byte) (x : Byte) (k : Nat), BuiltFrom s u → s.cfg.WellFormed → (∀ v ∈ u, v = x) →
    s.built = true → s.inOvf = false → s.ibuf = List.replicate k x → k ≤ s.cfg.obufDepth →
    (entry s.code x).len = 1 ∧
    ∃ t, exec .encode s = .next t ∧ t.err = .ok ∧ t.obuf = List.replicate k 0x30#8 ∧ t.result = BitVec.ofNat 32 k

/-- 43_decode.md R187, R179: with n ≥ 2 a stream of valid markers decodes, or ends inside a code; no other error is possible. -/
def Obligations.ValidMarkersFailOnlyIncomplete : Prop :=
  ∀ (s : State) (u : List Byte) (ms : List Marker), BuiltFrom s u → s.cfg.WellFormed → 2 ≤ u.dedup.length →
    s.built = true → s.inOvf = false → s.ibuf = ms.map Marker.unit →
    ∃ t, exec .decode s = .next t ∧ (t.err = .ok ∨ t.err = .incompleteSequence)

/-- 41_build.md R145: after a successful BUILD the tables are a function of its input alone. -/
def Obligations.RebuildIsIsolated : Prop :=
  ∀ s s' t t' : State, s.ibuf = s'.ibuf → s.ibuf ≠ [] → s.inOvf = false → s'.inOvf = false →
    exec .build s = .next t → exec .build s' = .next t' →
    t.freq = t'.freq ∧ t.code = t'.code ∧ t.nodeCount = t'.nodeCount ∧ t.root = t'.root ∧
    ∀ i, i < t.nodeCount.toNat → t.node[i]? = t'.node[i]?

/-! ### Whole-machine rules -/

/-- 20_memory.md R78, 10_state.md R37 to R41, 60_exceptions.md R235: only a successful BUILD writes FREQ, NODE, NODE_COUNT, ROOT, CODE or BUILT. -/
def Obligations.OnlyBuildWritesTables : Prop :=
  ∀ (i : Instr) (s t : State), exec i s = .next t → (i = .build → t.err ≠ .ok) →
    t.freq = s.freq ∧ t.node = s.node ∧ t.nodeCount = s.nodeCount ∧ t.root = s.root ∧ t.code = s.code ∧
    t.built = s.built

/-- 40_command_lifecycle.md R118: the buffer effects at completion, for every command and outcome; the output "out" of a success is stated with each
command. -/
def Obligations.BufferEffectsOfCommands : Prop :=
  ∀ (s t : State),
    (exec .build s = .next t → t.ibuf = [] ∧ t.inOvf = false ∧ t.obuf = []) ∧
    (exec .encode s = .next t → t.ibuf = [] ∧ t.inOvf = false ∧ (t.err ≠ .ok → t.obuf = [])) ∧
    (exec .decode s = .next t → t.ibuf = [] ∧ t.inOvf = false ∧ (t.err ≠ .ok → t.obuf = [])) ∧
    (∀ v, exec (.readFreq v) s = .next t → t.ibuf = s.ibuf ∧ t.inOvf = s.inOvf ∧ t.obuf = s.obuf) ∧
    (∀ v, exec (.readCode v) s = .next t → t.ibuf = s.ibuf ∧ t.inOvf = s.inOvf) ∧
    (∀ op r0 v r1, exec (.illegal op r0 v r1) s = .next t → t.ibuf = s.ibuf ∧ t.inOvf = s.inOvf ∧ t.obuf = s.obuf)

/-- 10_state.md R24 to R28, R45: which instruction writes BUSY, BUILT, IN_OVF and the record ERR, DETAIL, RESULT, ERR_INDEX. -/
def Obligations.FlagsHaveOnlyTheirWriters : Prop :=
  ∀ (i : Instr) (s t : State), exec i s = .next t →
    (s.busy = false → t.busy = true → ∃ w, i = .wrCmd w ∧ t.pend = w) ∧
    (s.busy = true → t.busy = false → ∃ w, encode i = .command w) ∧
    (t.built ≠ s.built → i = .build ∧ t.built = true ∧ t.err = .ok) ∧
    (t.inOvf ≠ s.inOvf →
      ((∃ w, i = .wrInData w) ∧ t.inOvf = true ∧ s.cfg.ibufDepth ≤ s.ibuf.length) ∨
      ((i = .build ∨ i = .encode ∨ i = .decode) ∧ t.inOvf = false)) ∧
    ((∃ a, encode i = .access a) →
      t.err = s.err ∧ t.detail = s.detail ∧ t.result = s.result ∧ t.errIndex = s.errIndex)

/-- 60_exceptions.md R225 (its table) with 30_encoding.md R93, R94: which command can record which error, with which
detail; RESULT is 0 but for DECODE's own errors, and ERR_INDEX is given where the table gives a constant. -/
def Obligations.RecordsFollowErrorTable : Prop :=
  ∀ (i : Instr) (w : Word) (s t : State), encode i = .command w → i.wellFormed = true → exec i s = .next t →
    (t.err = .ok ∧ t.detail = .none ∧ t.errIndex = 0 ∧ (∀ op r0 v r1, i ≠ .illegal op r0 v r1)) ∨
    (t.err = .invalidInput ∧ t.detail = .none ∧ t.errIndex = 0 ∧ t.result = 0 ∧ i = .build) ∨
    (t.err = .notBuilt ∧ t.detail = .none ∧ t.errIndex = 0 ∧ t.result = 0 ∧ (i = .encode ∨ i = .decode)) ∨
    (t.err = .unknownSymbol ∧ t.detail = .none ∧ t.result = 0 ∧ i = .encode) ∨
    (t.err = .invalidEncoding ∧ (t.detail = .badMarker ∨ t.detail = .noChild) ∧ i = .decode) ∨
    (t.err = .incompleteSequence ∧ t.detail = .none ∧ i = .decode ∧ t.errIndex = BitVec.ofNat 32 s.ibuf.length) ∨
    (t.err = .capacityExceeded ∧ t.detail = .inOverflow ∧ t.result = 0 ∧
      t.errIndex = BitVec.ofNat 32 s.cfg.ibufDepth ∧ (i = .build ∨ i = .encode ∨ i = .decode)) ∨
    (t.err = .capacityExceeded ∧ t.detail = .outOverflow ∧ t.result = 0 ∧ i = .encode) ∨
    (t.err = .illegalCommand ∧ (t.detail = .badOpcode ∨ t.detail = .rsvField) ∧ t.errIndex = 0 ∧ t.result = 0 ∧
      ∃ op r0 v r1, i = .illegal op r0 v r1)

/-- The reset state meets the invariant (10_state.md R44, R46). -/
def Obligations.ResetMeetsInvariant : Prop :=
  Inv State.reset

/-- Every step keeps the invariant: the buffers within their depths, the tables those of one BUILD or of reset, and only holdable accesses held
(10_state.md R33, R35, R43, R44; 00_scope.md R8). -/
def Obligations.StepKeepsInvariant : Prop :=
  ∀ s t : State, Inv s → step s = .next t → Inv t

/-- From a state that meets the invariant a step always answers a next state: no fault and no refusal. Where there is nothing to do that next
state is the same state, the model's idle step (log 12): 40_command_lifecycle.md R113 gives the engine no step there. -/
def Obligations.InvariantStepsNeverStop : Prop :=
  ∀ s : State, Inv s → ∃ t, step s = .next t

/-- 40_command_lifecycle.md R113, R123: every run ends. From a state that meets the invariant, after at most three steps per event and three more the
host's events are used up, nothing is held and BUSY = 0. The events are the model's form of the outside world (log 2), and a reset among them belongs
to the run (log 23). -/
def Obligations.EveryRunEnds : Prop :=
  ∀ s : State, Inv s → ∃ k t, k ≤ 3 * s.events.length + 3 ∧ core.run k s = .next t ∧ RunEnded t

/-- 20_memory.md R72: accesses are performed one at a time, none is lost and none is answered twice: in every step the answers given, the access held and
the accesses to come keep their total number. The record of answers is the model's (log 5). -/
def Obligations.EachAccessAnsweredOnce : Prop :=
  ∀ s t : State, step s = .next t →
    t.resp.length + t.held.toList.length + (t.events.filter (· ≠ .reset)).length =
      s.resp.length + s.held.toList.length + (s.events.filter (· ≠ .reset)).length ∧
    ∃ r, t.resp = s.resp ++ r ∧ r.length ≤ 1

/-- No step writes the parameters of the instance (00_scope.md R7). -/
def Obligations.ParametersNeverChange : Prop :=
  ∀ s t : State, step s = .next t → t.cfg = s.cfg

/-- 10_state.md R47, 20_memory.md R79, 60_exceptions.md R243: a step of one instance, and an access to one instance's window, leave every other instance
as it was. -/
def Obligations.InstancesAreIndependent : Prop :=
  ∀ (p : List State) (k j : Nat), j ≠ k →
    (platformStep p k)[j]? = p[j]? ∧
    (∀ addr n, instanceOf p addr = some k → (platformRead p addr n)[j]? = p[j]?) ∧
    (∀ addr n v, instanceOf p addr = some k → (platformWrite p addr n v)[j]? = p[j]?)
end

