-- ==== Sys2Proof/Laws/State.lean ====
section
/-!
SUPPORT. One lemma per field per named operation over the state, true by rfl: what each operation writes and what it leaves.
-/

namespace Sys2Proof.Machine

open Sys2Proof

/-! ### `State.respond` -/

@[simp] theorem State.respond_cfg (s : State) (r : Response) :
    (s.respond r).cfg = s.cfg := rfl
@[simp] theorem State.respond_busy (s : State) (r : Response) :
    (s.respond r).busy = s.busy := rfl
@[simp] theorem State.respond_built (s : State) (r : Response) :
    (s.respond r).built = s.built := rfl
@[simp] theorem State.respond_inOvf (s : State) (r : Response) :
    (s.respond r).inOvf = s.inOvf := rfl
@[simp] theorem State.respond_err (s : State) (r : Response) :
    (s.respond r).err = s.err := rfl
@[simp] theorem State.respond_detail (s : State) (r : Response) :
    (s.respond r).detail = s.detail := rfl
@[simp] theorem State.respond_result (s : State) (r : Response) :
    (s.respond r).result = s.result := rfl
@[simp] theorem State.respond_errIndex (s : State) (r : Response) :
    (s.respond r).errIndex = s.errIndex := rfl
@[simp] theorem State.respond_pend (s : State) (r : Response) :
    (s.respond r).pend = s.pend := rfl
@[simp] theorem State.respond_ibuf (s : State) (r : Response) :
    (s.respond r).ibuf = s.ibuf := rfl
@[simp] theorem State.respond_obuf (s : State) (r : Response) :
    (s.respond r).obuf = s.obuf := rfl
@[simp] theorem State.respond_freq (s : State) (r : Response) :
    (s.respond r).freq = s.freq := rfl
@[simp] theorem State.respond_node (s : State) (r : Response) :
    (s.respond r).node = s.node := rfl
@[simp] theorem State.respond_nodeCount (s : State) (r : Response) :
    (s.respond r).nodeCount = s.nodeCount := rfl
@[simp] theorem State.respond_root (s : State) (r : Response) :
    (s.respond r).root = s.root := rfl
@[simp] theorem State.respond_code (s : State) (r : Response) :
    (s.respond r).code = s.code := rfl
@[simp] theorem State.respond_held (s : State) (r : Response) :
    (s.respond r).held = s.held := rfl
@[simp] theorem State.respond_events (s : State) (r : Response) :
    (s.respond r).events = s.events := rfl
@[simp] theorem State.respond_resp (s : State) (r : Response) :
    (s.respond r).resp = s.resp ++ [r] := rfl
@[simp] theorem State.respond_busFault (s : State) (r : Response) :
    (s.respond r).busFault = s.busFault := rfl
@[simp] theorem State.respond_draws (s : State) (r : Response) :
    (s.respond r).draws = s.draws := rfl

/-! ### `State.hold` -/

@[simp] theorem State.hold_cfg (s : State) (a : Access) :
    (s.hold a).cfg = s.cfg := rfl
@[simp] theorem State.hold_busy (s : State) (a : Access) :
    (s.hold a).busy = s.busy := rfl
@[simp] theorem State.hold_built (s : State) (a : Access) :
    (s.hold a).built = s.built := rfl
@[simp] theorem State.hold_inOvf (s : State) (a : Access) :
    (s.hold a).inOvf = s.inOvf := rfl
@[simp] theorem State.hold_err (s : State) (a : Access) :
    (s.hold a).err = s.err := rfl
@[simp] theorem State.hold_detail (s : State) (a : Access) :
    (s.hold a).detail = s.detail := rfl
@[simp] theorem State.hold_result (s : State) (a : Access) :
    (s.hold a).result = s.result := rfl
@[simp] theorem State.hold_errIndex (s : State) (a : Access) :
    (s.hold a).errIndex = s.errIndex := rfl
@[simp] theorem State.hold_pend (s : State) (a : Access) :
    (s.hold a).pend = s.pend := rfl
@[simp] theorem State.hold_ibuf (s : State) (a : Access) :
    (s.hold a).ibuf = s.ibuf := rfl
@[simp] theorem State.hold_obuf (s : State) (a : Access) :
    (s.hold a).obuf = s.obuf := rfl
@[simp] theorem State.hold_freq (s : State) (a : Access) :
    (s.hold a).freq = s.freq := rfl
@[simp] theorem State.hold_node (s : State) (a : Access) :
    (s.hold a).node = s.node := rfl
@[simp] theorem State.hold_nodeCount (s : State) (a : Access) :
    (s.hold a).nodeCount = s.nodeCount := rfl
@[simp] theorem State.hold_root (s : State) (a : Access) :
    (s.hold a).root = s.root := rfl
@[simp] theorem State.hold_code (s : State) (a : Access) :
    (s.hold a).code = s.code := rfl
@[simp] theorem State.hold_held (s : State) (a : Access) :
    (s.hold a).held = some a := rfl
@[simp] theorem State.hold_events (s : State) (a : Access) :
    (s.hold a).events = s.events := rfl
@[simp] theorem State.hold_resp (s : State) (a : Access) :
    (s.hold a).resp = s.resp := rfl
@[simp] theorem State.hold_busFault (s : State) (a : Access) :
    (s.hold a).busFault = s.busFault := rfl
@[simp] theorem State.hold_draws (s : State) (a : Access) :
    (s.hold a).draws = s.draws := rfl

/-! ### `State.answerRead` -/

@[simp] theorem State.answerRead_cfg (s : State) (v : Word) :
    (s.answerRead v).cfg = s.cfg := rfl
@[simp] theorem State.answerRead_busy (s : State) (v : Word) :
    (s.answerRead v).busy = s.busy := rfl
@[simp] theorem State.answerRead_built (s : State) (v : Word) :
    (s.answerRead v).built = s.built := rfl
@[simp] theorem State.answerRead_inOvf (s : State) (v : Word) :
    (s.answerRead v).inOvf = s.inOvf := rfl
@[simp] theorem State.answerRead_err (s : State) (v : Word) :
    (s.answerRead v).err = s.err := rfl
@[simp] theorem State.answerRead_detail (s : State) (v : Word) :
    (s.answerRead v).detail = s.detail := rfl
@[simp] theorem State.answerRead_result (s : State) (v : Word) :
    (s.answerRead v).result = s.result := rfl
@[simp] theorem State.answerRead_errIndex (s : State) (v : Word) :
    (s.answerRead v).errIndex = s.errIndex := rfl
@[simp] theorem State.answerRead_pend (s : State) (v : Word) :
    (s.answerRead v).pend = s.pend := rfl
@[simp] theorem State.answerRead_ibuf (s : State) (v : Word) :
    (s.answerRead v).ibuf = s.ibuf := rfl
@[simp] theorem State.answerRead_obuf (s : State) (v : Word) :
    (s.answerRead v).obuf = s.obuf := rfl
@[simp] theorem State.answerRead_freq (s : State) (v : Word) :
    (s.answerRead v).freq = s.freq := rfl
@[simp] theorem State.answerRead_node (s : State) (v : Word) :
    (s.answerRead v).node = s.node := rfl
@[simp] theorem State.answerRead_nodeCount (s : State) (v : Word) :
    (s.answerRead v).nodeCount = s.nodeCount := rfl
@[simp] theorem State.answerRead_root (s : State) (v : Word) :
    (s.answerRead v).root = s.root := rfl
@[simp] theorem State.answerRead_code (s : State) (v : Word) :
    (s.answerRead v).code = s.code := rfl
@[simp] theorem State.answerRead_held (s : State) (v : Word) :
    (s.answerRead v).held = s.held := rfl
@[simp] theorem State.answerRead_events (s : State) (v : Word) :
    (s.answerRead v).events = s.events := rfl
@[simp] theorem State.answerRead_resp (s : State) (v : Word) :
    (s.answerRead v).resp = s.resp ++ [.data v] := rfl
@[simp] theorem State.answerRead_busFault (s : State) (v : Word) :
    (s.answerRead v).busFault = s.busFault := rfl
@[simp] theorem State.answerRead_draws (s : State) (v : Word) :
    (s.answerRead v).draws = s.draws := rfl

/-! ### `State.ignoreWrite` -/

@[simp] theorem State.ignoreWrite_cfg (s : State) :
    (s.ignoreWrite).cfg = s.cfg := rfl
@[simp] theorem State.ignoreWrite_busy (s : State) :
    (s.ignoreWrite).busy = s.busy := rfl
@[simp] theorem State.ignoreWrite_built (s : State) :
    (s.ignoreWrite).built = s.built := rfl
@[simp] theorem State.ignoreWrite_inOvf (s : State) :
    (s.ignoreWrite).inOvf = s.inOvf := rfl
@[simp] theorem State.ignoreWrite_err (s : State) :
    (s.ignoreWrite).err = s.err := rfl
@[simp] theorem State.ignoreWrite_detail (s : State) :
    (s.ignoreWrite).detail = s.detail := rfl
@[simp] theorem State.ignoreWrite_result (s : State) :
    (s.ignoreWrite).result = s.result := rfl
@[simp] theorem State.ignoreWrite_errIndex (s : State) :
    (s.ignoreWrite).errIndex = s.errIndex := rfl
@[simp] theorem State.ignoreWrite_pend (s : State) :
    (s.ignoreWrite).pend = s.pend := rfl
@[simp] theorem State.ignoreWrite_ibuf (s : State) :
    (s.ignoreWrite).ibuf = s.ibuf := rfl
@[simp] theorem State.ignoreWrite_obuf (s : State) :
    (s.ignoreWrite).obuf = s.obuf := rfl
@[simp] theorem State.ignoreWrite_freq (s : State) :
    (s.ignoreWrite).freq = s.freq := rfl
@[simp] theorem State.ignoreWrite_node (s : State) :
    (s.ignoreWrite).node = s.node := rfl
@[simp] theorem State.ignoreWrite_nodeCount (s : State) :
    (s.ignoreWrite).nodeCount = s.nodeCount := rfl
@[simp] theorem State.ignoreWrite_root (s : State) :
    (s.ignoreWrite).root = s.root := rfl
@[simp] theorem State.ignoreWrite_code (s : State) :
    (s.ignoreWrite).code = s.code := rfl
@[simp] theorem State.ignoreWrite_held (s : State) :
    (s.ignoreWrite).held = s.held := rfl
@[simp] theorem State.ignoreWrite_events (s : State) :
    (s.ignoreWrite).events = s.events := rfl
@[simp] theorem State.ignoreWrite_resp (s : State) :
    (s.ignoreWrite).resp = s.resp ++ [.done] := rfl
@[simp] theorem State.ignoreWrite_busFault (s : State) :
    (s.ignoreWrite).busFault = s.busFault := rfl
@[simp] theorem State.ignoreWrite_draws (s : State) :
    (s.ignoreWrite).draws = s.draws := rfl

/-! ### `State.accept` -/

@[simp] theorem State.accept_cfg (s : State) (w : Word) :
    (s.accept w).cfg = s.cfg := rfl
@[simp] theorem State.accept_busy (s : State) (w : Word) :
    (s.accept w).busy = true := rfl
@[simp] theorem State.accept_built (s : State) (w : Word) :
    (s.accept w).built = s.built := rfl
@[simp] theorem State.accept_inOvf (s : State) (w : Word) :
    (s.accept w).inOvf = s.inOvf := rfl
@[simp] theorem State.accept_err (s : State) (w : Word) :
    (s.accept w).err = s.err := rfl
@[simp] theorem State.accept_detail (s : State) (w : Word) :
    (s.accept w).detail = s.detail := rfl
@[simp] theorem State.accept_result (s : State) (w : Word) :
    (s.accept w).result = s.result := rfl
@[simp] theorem State.accept_errIndex (s : State) (w : Word) :
    (s.accept w).errIndex = s.errIndex := rfl
@[simp] theorem State.accept_pend (s : State) (w : Word) :
    (s.accept w).pend = w := rfl
@[simp] theorem State.accept_ibuf (s : State) (w : Word) :
    (s.accept w).ibuf = s.ibuf := rfl
@[simp] theorem State.accept_obuf (s : State) (w : Word) :
    (s.accept w).obuf = s.obuf := rfl
@[simp] theorem State.accept_freq (s : State) (w : Word) :
    (s.accept w).freq = s.freq := rfl
@[simp] theorem State.accept_node (s : State) (w : Word) :
    (s.accept w).node = s.node := rfl
@[simp] theorem State.accept_nodeCount (s : State) (w : Word) :
    (s.accept w).nodeCount = s.nodeCount := rfl
@[simp] theorem State.accept_root (s : State) (w : Word) :
    (s.accept w).root = s.root := rfl
@[simp] theorem State.accept_code (s : State) (w : Word) :
    (s.accept w).code = s.code := rfl
@[simp] theorem State.accept_held (s : State) (w : Word) :
    (s.accept w).held = s.held := rfl
@[simp] theorem State.accept_events (s : State) (w : Word) :
    (s.accept w).events = s.events := rfl
@[simp] theorem State.accept_resp (s : State) (w : Word) :
    (s.accept w).resp = s.resp := rfl
@[simp] theorem State.accept_busFault (s : State) (w : Word) :
    (s.accept w).busFault = s.busFault := rfl
@[simp] theorem State.accept_draws (s : State) (w : Word) :
    (s.accept w).draws = s.draws := rfl

/-! ### `State.pop` -/

@[simp] theorem State.pop_cfg (s : State) :
    (s.pop).cfg = s.cfg := rfl
@[simp] theorem State.pop_busy (s : State) :
    (s.pop).busy = s.busy := rfl
@[simp] theorem State.pop_built (s : State) :
    (s.pop).built = s.built := rfl
@[simp] theorem State.pop_inOvf (s : State) :
    (s.pop).inOvf = s.inOvf := rfl
@[simp] theorem State.pop_err (s : State) :
    (s.pop).err = s.err := rfl
@[simp] theorem State.pop_detail (s : State) :
    (s.pop).detail = s.detail := rfl
@[simp] theorem State.pop_result (s : State) :
    (s.pop).result = s.result := rfl
@[simp] theorem State.pop_errIndex (s : State) :
    (s.pop).errIndex = s.errIndex := rfl
@[simp] theorem State.pop_pend (s : State) :
    (s.pop).pend = s.pend := rfl
@[simp] theorem State.pop_ibuf (s : State) :
    (s.pop).ibuf = s.ibuf := rfl
@[simp] theorem State.pop_obuf (s : State) :
    (s.pop).obuf = s.obuf.tail := rfl
@[simp] theorem State.pop_freq (s : State) :
    (s.pop).freq = s.freq := rfl
@[simp] theorem State.pop_node (s : State) :
    (s.pop).node = s.node := rfl
@[simp] theorem State.pop_nodeCount (s : State) :
    (s.pop).nodeCount = s.nodeCount := rfl
@[simp] theorem State.pop_root (s : State) :
    (s.pop).root = s.root := rfl
@[simp] theorem State.pop_code (s : State) :
    (s.pop).code = s.code := rfl
@[simp] theorem State.pop_held (s : State) :
    (s.pop).held = s.held := rfl
@[simp] theorem State.pop_events (s : State) :
    (s.pop).events = s.events := rfl
@[simp] theorem State.pop_resp (s : State) :
    (s.pop).resp = s.resp := rfl
@[simp] theorem State.pop_busFault (s : State) :
    (s.pop).busFault = s.busFault := rfl
@[simp] theorem State.pop_draws (s : State) :
    (s.pop).draws = s.draws := rfl

/-! ### `State.reportBusError` -/

@[simp] theorem State.reportBusError_cfg (s : State) :
    (s.reportBusError).cfg = s.cfg := rfl
@[simp] theorem State.reportBusError_busy (s : State) :
    (s.reportBusError).busy = s.busy := rfl
@[simp] theorem State.reportBusError_built (s : State) :
    (s.reportBusError).built = s.built := rfl
@[simp] theorem State.reportBusError_inOvf (s : State) :
    (s.reportBusError).inOvf = s.inOvf := rfl
@[simp] theorem State.reportBusError_err (s : State) :
    (s.reportBusError).err = s.err := rfl
@[simp] theorem State.reportBusError_detail (s : State) :
    (s.reportBusError).detail = s.detail := rfl
@[simp] theorem State.reportBusError_result (s : State) :
    (s.reportBusError).result = s.result := rfl
@[simp] theorem State.reportBusError_errIndex (s : State) :
    (s.reportBusError).errIndex = s.errIndex := rfl
@[simp] theorem State.reportBusError_pend (s : State) :
    (s.reportBusError).pend = s.pend := rfl
@[simp] theorem State.reportBusError_ibuf (s : State) :
    (s.reportBusError).ibuf = s.ibuf := rfl
@[simp] theorem State.reportBusError_obuf (s : State) :
    (s.reportBusError).obuf = s.obuf := rfl
@[simp] theorem State.reportBusError_freq (s : State) :
    (s.reportBusError).freq = s.freq := rfl
@[simp] theorem State.reportBusError_node (s : State) :
    (s.reportBusError).node = s.node := rfl
@[simp] theorem State.reportBusError_nodeCount (s : State) :
    (s.reportBusError).nodeCount = s.nodeCount := rfl
@[simp] theorem State.reportBusError_root (s : State) :
    (s.reportBusError).root = s.root := rfl
@[simp] theorem State.reportBusError_code (s : State) :
    (s.reportBusError).code = s.code := rfl
@[simp] theorem State.reportBusError_held (s : State) :
    (s.reportBusError).held = s.held := rfl
@[simp] theorem State.reportBusError_events (s : State) :
    (s.reportBusError).events = s.events := rfl
@[simp] theorem State.reportBusError_resp (s : State) :
    (s.reportBusError).resp = s.resp ++ [.busError] := rfl
@[simp] theorem State.reportBusError_busFault (s : State) :
    (s.reportBusError).busFault = true := rfl
@[simp] theorem State.reportBusError_draws (s : State) :
    (s.reportBusError).draws = s.draws := rfl

/-! ### `State.complete` -/

@[simp] theorem State.complete_cfg (s : State) (e : Err) (d : Detail) (i : Nat) (r : Word) :
    (s.complete e d i r).cfg = s.cfg := rfl
@[simp] theorem State.complete_busy (s : State) (e : Err) (d : Detail) (i : Nat) (r : Word) :
    (s.complete e d i r).busy = false := rfl
@[simp] theorem State.complete_built (s : State) (e : Err) (d : Detail) (i : Nat) (r : Word) :
    (s.complete e d i r).built = s.built := rfl
@[simp] theorem State.complete_inOvf (s : State) (e : Err) (d : Detail) (i : Nat) (r : Word) :
    (s.complete e d i r).inOvf = s.inOvf := rfl
@[simp] theorem State.complete_err (s : State) (e : Err) (d : Detail) (i : Nat) (r : Word) :
    (s.complete e d i r).err = e := rfl
@[simp] theorem State.complete_detail (s : State) (e : Err) (d : Detail) (i : Nat) (r : Word) :
    (s.complete e d i r).detail = d := rfl
@[simp] theorem State.complete_result (s : State) (e : Err) (d : Detail) (i : Nat) (r : Word) :
    (s.complete e d i r).result = r := rfl
@[simp] theorem State.complete_errIndex (s : State) (e : Err) (d : Detail) (i : Nat) (r : Word) :
    (s.complete e d i r).errIndex = zext32 i := rfl
@[simp] theorem State.complete_pend (s : State) (e : Err) (d : Detail) (i : Nat) (r : Word) :
    (s.complete e d i r).pend = Config.freePend s.draws := rfl
@[simp] theorem State.complete_ibuf (s : State) (e : Err) (d : Detail) (i : Nat) (r : Word) :
    (s.complete e d i r).ibuf = s.ibuf := rfl
@[simp] theorem State.complete_obuf (s : State) (e : Err) (d : Detail) (i : Nat) (r : Word) :
    (s.complete e d i r).obuf = s.obuf := rfl
@[simp] theorem State.complete_freq (s : State) (e : Err) (d : Detail) (i : Nat) (r : Word) :
    (s.complete e d i r).freq = s.freq := rfl
@[simp] theorem State.complete_node (s : State) (e : Err) (d : Detail) (i : Nat) (r : Word) :
    (s.complete e d i r).node = s.node := rfl
@[simp] theorem State.complete_nodeCount (s : State) (e : Err) (d : Detail) (i : Nat) (r : Word) :
    (s.complete e d i r).nodeCount = s.nodeCount := rfl
@[simp] theorem State.complete_root (s : State) (e : Err) (d : Detail) (i : Nat) (r : Word) :
    (s.complete e d i r).root = s.root := rfl
@[simp] theorem State.complete_code (s : State) (e : Err) (d : Detail) (i : Nat) (r : Word) :
    (s.complete e d i r).code = s.code := rfl
@[simp] theorem State.complete_held (s : State) (e : Err) (d : Detail) (i : Nat) (r : Word) :
    (s.complete e d i r).held = s.held := rfl
@[simp] theorem State.complete_events (s : State) (e : Err) (d : Detail) (i : Nat) (r : Word) :
    (s.complete e d i r).events = s.events := rfl
@[simp] theorem State.complete_resp (s : State) (e : Err) (d : Detail) (i : Nat) (r : Word) :
    (s.complete e d i r).resp = s.resp := rfl
@[simp] theorem State.complete_busFault (s : State) (e : Err) (d : Detail) (i : Nat) (r : Word) :
    (s.complete e d i r).busFault = s.busFault := rfl
@[simp] theorem State.complete_draws (s : State) (e : Err) (d : Detail) (i : Nat) (r : Word) :
    (s.complete e d i r).draws = s.draws + 1 := rfl

/-! ### `State.succeed` -/

@[simp] theorem State.succeed_cfg (s : State) (r : Word) :
    (s.succeed r).cfg = s.cfg := rfl
@[simp] theorem State.succeed_busy (s : State) (r : Word) :
    (s.succeed r).busy = false := rfl
@[simp] theorem State.succeed_built (s : State) (r : Word) :
    (s.succeed r).built = s.built := rfl
@[simp] theorem State.succeed_inOvf (s : State) (r : Word) :
    (s.succeed r).inOvf = s.inOvf := rfl
@[simp] theorem State.succeed_err (s : State) (r : Word) :
    (s.succeed r).err = .ok := rfl
@[simp] theorem State.succeed_detail (s : State) (r : Word) :
    (s.succeed r).detail = .none := rfl
@[simp] theorem State.succeed_result (s : State) (r : Word) :
    (s.succeed r).result = r := rfl
@[simp] theorem State.succeed_errIndex (s : State) (r : Word) :
    (s.succeed r).errIndex = zext32 0 := rfl
@[simp] theorem State.succeed_pend (s : State) (r : Word) :
    (s.succeed r).pend = Config.freePend s.draws := rfl
@[simp] theorem State.succeed_ibuf (s : State) (r : Word) :
    (s.succeed r).ibuf = s.ibuf := rfl
@[simp] theorem State.succeed_obuf (s : State) (r : Word) :
    (s.succeed r).obuf = s.obuf := rfl
@[simp] theorem State.succeed_freq (s : State) (r : Word) :
    (s.succeed r).freq = s.freq := rfl
@[simp] theorem State.succeed_node (s : State) (r : Word) :
    (s.succeed r).node = s.node := rfl
@[simp] theorem State.succeed_nodeCount (s : State) (r : Word) :
    (s.succeed r).nodeCount = s.nodeCount := rfl
@[simp] theorem State.succeed_root (s : State) (r : Word) :
    (s.succeed r).root = s.root := rfl
@[simp] theorem State.succeed_code (s : State) (r : Word) :
    (s.succeed r).code = s.code := rfl
@[simp] theorem State.succeed_held (s : State) (r : Word) :
    (s.succeed r).held = s.held := rfl
@[simp] theorem State.succeed_events (s : State) (r : Word) :
    (s.succeed r).events = s.events := rfl
@[simp] theorem State.succeed_resp (s : State) (r : Word) :
    (s.succeed r).resp = s.resp := rfl
@[simp] theorem State.succeed_busFault (s : State) (r : Word) :
    (s.succeed r).busFault = s.busFault := rfl
@[simp] theorem State.succeed_draws (s : State) (r : Word) :
    (s.succeed r).draws = s.draws + 1 := rfl

/-! ### `State.consumeInput` -/

@[simp] theorem State.consumeInput_cfg (s : State) :
    (s.consumeInput).cfg = s.cfg := rfl
@[simp] theorem State.consumeInput_busy (s : State) :
    (s.consumeInput).busy = s.busy := rfl
@[simp] theorem State.consumeInput_built (s : State) :
    (s.consumeInput).built = s.built := rfl
@[simp] theorem State.consumeInput_inOvf (s : State) :
    (s.consumeInput).inOvf = false := rfl
@[simp] theorem State.consumeInput_err (s : State) :
    (s.consumeInput).err = s.err := rfl
@[simp] theorem State.consumeInput_detail (s : State) :
    (s.consumeInput).detail = s.detail := rfl
@[simp] theorem State.consumeInput_result (s : State) :
    (s.consumeInput).result = s.result := rfl
@[simp] theorem State.consumeInput_errIndex (s : State) :
    (s.consumeInput).errIndex = s.errIndex := rfl
@[simp] theorem State.consumeInput_pend (s : State) :
    (s.consumeInput).pend = s.pend := rfl
@[simp] theorem State.consumeInput_ibuf (s : State) :
    (s.consumeInput).ibuf = [] := rfl
@[simp] theorem State.consumeInput_obuf (s : State) :
    (s.consumeInput).obuf = s.obuf := rfl
@[simp] theorem State.consumeInput_freq (s : State) :
    (s.consumeInput).freq = s.freq := rfl
@[simp] theorem State.consumeInput_node (s : State) :
    (s.consumeInput).node = s.node := rfl
@[simp] theorem State.consumeInput_nodeCount (s : State) :
    (s.consumeInput).nodeCount = s.nodeCount := rfl
@[simp] theorem State.consumeInput_root (s : State) :
    (s.consumeInput).root = s.root := rfl
@[simp] theorem State.consumeInput_code (s : State) :
    (s.consumeInput).code = s.code := rfl
@[simp] theorem State.consumeInput_held (s : State) :
    (s.consumeInput).held = s.held := rfl
@[simp] theorem State.consumeInput_events (s : State) :
    (s.consumeInput).events = s.events := rfl
@[simp] theorem State.consumeInput_resp (s : State) :
    (s.consumeInput).resp = s.resp := rfl
@[simp] theorem State.consumeInput_busFault (s : State) :
    (s.consumeInput).busFault = s.busFault := rfl
@[simp] theorem State.consumeInput_draws (s : State) :
    (s.consumeInput).draws = s.draws := rfl

/-! ### `State.setOutput` -/

@[simp] theorem State.setOutput_cfg (s : State) (out : List Byte) :
    (s.setOutput out).cfg = s.cfg := rfl
@[simp] theorem State.setOutput_busy (s : State) (out : List Byte) :
    (s.setOutput out).busy = s.busy := rfl
@[simp] theorem State.setOutput_built (s : State) (out : List Byte) :
    (s.setOutput out).built = s.built := rfl
@[simp] theorem State.setOutput_inOvf (s : State) (out : List Byte) :
    (s.setOutput out).inOvf = s.inOvf := rfl
@[simp] theorem State.setOutput_err (s : State) (out : List Byte) :
    (s.setOutput out).err = s.err := rfl
@[simp] theorem State.setOutput_detail (s : State) (out : List Byte) :
    (s.setOutput out).detail = s.detail := rfl
@[simp] theorem State.setOutput_result (s : State) (out : List Byte) :
    (s.setOutput out).result = s.result := rfl
@[simp] theorem State.setOutput_errIndex (s : State) (out : List Byte) :
    (s.setOutput out).errIndex = s.errIndex := rfl
@[simp] theorem State.setOutput_pend (s : State) (out : List Byte) :
    (s.setOutput out).pend = s.pend := rfl
@[simp] theorem State.setOutput_ibuf (s : State) (out : List Byte) :
    (s.setOutput out).ibuf = s.ibuf := rfl
@[simp] theorem State.setOutput_obuf (s : State) (out : List Byte) :
    (s.setOutput out).obuf = out := rfl
@[simp] theorem State.setOutput_freq (s : State) (out : List Byte) :
    (s.setOutput out).freq = s.freq := rfl
@[simp] theorem State.setOutput_node (s : State) (out : List Byte) :
    (s.setOutput out).node = s.node := rfl
@[simp] theorem State.setOutput_nodeCount (s : State) (out : List Byte) :
    (s.setOutput out).nodeCount = s.nodeCount := rfl
@[simp] theorem State.setOutput_root (s : State) (out : List Byte) :
    (s.setOutput out).root = s.root := rfl
@[simp] theorem State.setOutput_code (s : State) (out : List Byte) :
    (s.setOutput out).code = s.code := rfl
@[simp] theorem State.setOutput_held (s : State) (out : List Byte) :
    (s.setOutput out).held = s.held := rfl
@[simp] theorem State.setOutput_events (s : State) (out : List Byte) :
    (s.setOutput out).events = s.events := rfl
@[simp] theorem State.setOutput_resp (s : State) (out : List Byte) :
    (s.setOutput out).resp = s.resp := rfl
@[simp] theorem State.setOutput_busFault (s : State) (out : List Byte) :
    (s.setOutput out).busFault = s.busFault := rfl
@[simp] theorem State.setOutput_draws (s : State) (out : List Byte) :
    (s.setOutput out).draws = s.draws := rfl

/-! ### `State.dataSuccess` -/

@[simp] theorem State.dataSuccess_cfg (s : State) (out : List Byte) (r : Word) :
    (s.dataSuccess out r).cfg = s.cfg := rfl
@[simp] theorem State.dataSuccess_busy (s : State) (out : List Byte) (r : Word) :
    (s.dataSuccess out r).busy = false := rfl
@[simp] theorem State.dataSuccess_built (s : State) (out : List Byte) (r : Word) :
    (s.dataSuccess out r).built = s.built := rfl
@[simp] theorem State.dataSuccess_inOvf (s : State) (out : List Byte) (r : Word) :
    (s.dataSuccess out r).inOvf = false := rfl
@[simp] theorem State.dataSuccess_err (s : State) (out : List Byte) (r : Word) :
    (s.dataSuccess out r).err = .ok := rfl
@[simp] theorem State.dataSuccess_detail (s : State) (out : List Byte) (r : Word) :
    (s.dataSuccess out r).detail = .none := rfl
@[simp] theorem State.dataSuccess_result (s : State) (out : List Byte) (r : Word) :
    (s.dataSuccess out r).result = r := rfl
@[simp] theorem State.dataSuccess_errIndex (s : State) (out : List Byte) (r : Word) :
    (s.dataSuccess out r).errIndex = zext32 0 := rfl
@[simp] theorem State.dataSuccess_pend (s : State) (out : List Byte) (r : Word) :
    (s.dataSuccess out r).pend = Config.freePend s.draws := rfl
@[simp] theorem State.dataSuccess_ibuf (s : State) (out : List Byte) (r : Word) :
    (s.dataSuccess out r).ibuf = [] := rfl
@[simp] theorem State.dataSuccess_obuf (s : State) (out : List Byte) (r : Word) :
    (s.dataSuccess out r).obuf = out := rfl
@[simp] theorem State.dataSuccess_freq (s : State) (out : List Byte) (r : Word) :
    (s.dataSuccess out r).freq = s.freq := rfl
@[simp] theorem State.dataSuccess_node (s : State) (out : List Byte) (r : Word) :
    (s.dataSuccess out r).node = s.node := rfl
@[simp] theorem State.dataSuccess_nodeCount (s : State) (out : List Byte) (r : Word) :
    (s.dataSuccess out r).nodeCount = s.nodeCount := rfl
@[simp] theorem State.dataSuccess_root (s : State) (out : List Byte) (r : Word) :
    (s.dataSuccess out r).root = s.root := rfl
@[simp] theorem State.dataSuccess_code (s : State) (out : List Byte) (r : Word) :
    (s.dataSuccess out r).code = s.code := rfl
@[simp] theorem State.dataSuccess_held (s : State) (out : List Byte) (r : Word) :
    (s.dataSuccess out r).held = s.held := rfl
@[simp] theorem State.dataSuccess_events (s : State) (out : List Byte) (r : Word) :
    (s.dataSuccess out r).events = s.events := rfl
@[simp] theorem State.dataSuccess_resp (s : State) (out : List Byte) (r : Word) :
    (s.dataSuccess out r).resp = s.resp := rfl
@[simp] theorem State.dataSuccess_busFault (s : State) (out : List Byte) (r : Word) :
    (s.dataSuccess out r).busFault = s.busFault := rfl
@[simp] theorem State.dataSuccess_draws (s : State) (out : List Byte) (r : Word) :
    (s.dataSuccess out r).draws = s.draws + 1 := rfl

/-! ### `State.dataError` -/

@[simp] theorem State.dataError_cfg (s : State) (e : Err) (d : Detail) (i r : Nat) :
    (s.dataError e d i r).cfg = s.cfg := rfl
@[simp] theorem State.dataError_busy (s : State) (e : Err) (d : Detail) (i r : Nat) :
    (s.dataError e d i r).busy = false := rfl
@[simp] theorem State.dataError_built (s : State) (e : Err) (d : Detail) (i r : Nat) :
    (s.dataError e d i r).built = s.built := rfl
@[simp] theorem State.dataError_inOvf (s : State) (e : Err) (d : Detail) (i r : Nat) :
    (s.dataError e d i r).inOvf = false := rfl
@[simp] theorem State.dataError_err (s : State) (e : Err) (d : Detail) (i r : Nat) :
    (s.dataError e d i r).err = e := rfl
@[simp] theorem State.dataError_detail (s : State) (e : Err) (d : Detail) (i r : Nat) :
    (s.dataError e d i r).detail = d := rfl
@[simp] theorem State.dataError_result (s : State) (e : Err) (d : Detail) (i r : Nat) :
    (s.dataError e d i r).result = zext32 r := rfl
@[simp] theorem State.dataError_errIndex (s : State) (e : Err) (d : Detail) (i r : Nat) :
    (s.dataError e d i r).errIndex = zext32 i := rfl
@[simp] theorem State.dataError_pend (s : State) (e : Err) (d : Detail) (i r : Nat) :
    (s.dataError e d i r).pend = Config.freePend s.draws := rfl
@[simp] theorem State.dataError_ibuf (s : State) (e : Err) (d : Detail) (i r : Nat) :
    (s.dataError e d i r).ibuf = [] := rfl
@[simp] theorem State.dataError_obuf (s : State) (e : Err) (d : Detail) (i r : Nat) :
    (s.dataError e d i r).obuf = [] := rfl
@[simp] theorem State.dataError_freq (s : State) (e : Err) (d : Detail) (i r : Nat) :
    (s.dataError e d i r).freq = s.freq := rfl
@[simp] theorem State.dataError_node (s : State) (e : Err) (d : Detail) (i r : Nat) :
    (s.dataError e d i r).node = s.node := rfl
@[simp] theorem State.dataError_nodeCount (s : State) (e : Err) (d : Detail) (i r : Nat) :
    (s.dataError e d i r).nodeCount = s.nodeCount := rfl
@[simp] theorem State.dataError_root (s : State) (e : Err) (d : Detail) (i r : Nat) :
    (s.dataError e d i r).root = s.root := rfl
@[simp] theorem State.dataError_code (s : State) (e : Err) (d : Detail) (i r : Nat) :
    (s.dataError e d i r).code = s.code := rfl
@[simp] theorem State.dataError_held (s : State) (e : Err) (d : Detail) (i r : Nat) :
    (s.dataError e d i r).held = s.held := rfl
@[simp] theorem State.dataError_events (s : State) (e : Err) (d : Detail) (i r : Nat) :
    (s.dataError e d i r).events = s.events := rfl
@[simp] theorem State.dataError_resp (s : State) (e : Err) (d : Detail) (i r : Nat) :
    (s.dataError e d i r).resp = s.resp := rfl
@[simp] theorem State.dataError_busFault (s : State) (e : Err) (d : Detail) (i r : Nat) :
    (s.dataError e d i r).busFault = s.busFault := rfl
@[simp] theorem State.dataError_draws (s : State) (e : Err) (d : Detail) (i r : Nat) :
    (s.dataError e d i r).draws = s.draws + 1 := rfl

/-! ### `State.illegalComplete` -/

@[simp] theorem State.illegalComplete_cfg (s : State) (d : Detail) :
    (s.illegalComplete d).cfg = s.cfg := rfl
@[simp] theorem State.illegalComplete_busy (s : State) (d : Detail) :
    (s.illegalComplete d).busy = false := rfl
@[simp] theorem State.illegalComplete_built (s : State) (d : Detail) :
    (s.illegalComplete d).built = s.built := rfl
@[simp] theorem State.illegalComplete_inOvf (s : State) (d : Detail) :
    (s.illegalComplete d).inOvf = s.inOvf := rfl
@[simp] theorem State.illegalComplete_err (s : State) (d : Detail) :
    (s.illegalComplete d).err = .illegalCommand := rfl
@[simp] theorem State.illegalComplete_detail (s : State) (d : Detail) :
    (s.illegalComplete d).detail = d := rfl
@[simp] theorem State.illegalComplete_result (s : State) (d : Detail) :
    (s.illegalComplete d).result = 0 := rfl
@[simp] theorem State.illegalComplete_errIndex (s : State) (d : Detail) :
    (s.illegalComplete d).errIndex = zext32 0 := rfl
@[simp] theorem State.illegalComplete_pend (s : State) (d : Detail) :
    (s.illegalComplete d).pend = Config.freePend s.draws := rfl
@[simp] theorem State.illegalComplete_ibuf (s : State) (d : Detail) :
    (s.illegalComplete d).ibuf = s.ibuf := rfl
@[simp] theorem State.illegalComplete_obuf (s : State) (d : Detail) :
    (s.illegalComplete d).obuf = s.obuf := rfl
@[simp] theorem State.illegalComplete_freq (s : State) (d : Detail) :
    (s.illegalComplete d).freq = s.freq := rfl
@[simp] theorem State.illegalComplete_node (s : State) (d : Detail) :
    (s.illegalComplete d).node = s.node := rfl
@[simp] theorem State.illegalComplete_nodeCount (s : State) (d : Detail) :
    (s.illegalComplete d).nodeCount = s.nodeCount := rfl
@[simp] theorem State.illegalComplete_root (s : State) (d : Detail) :
    (s.illegalComplete d).root = s.root := rfl
@[simp] theorem State.illegalComplete_code (s : State) (d : Detail) :
    (s.illegalComplete d).code = s.code := rfl
@[simp] theorem State.illegalComplete_held (s : State) (d : Detail) :
    (s.illegalComplete d).held = s.held := rfl
@[simp] theorem State.illegalComplete_events (s : State) (d : Detail) :
    (s.illegalComplete d).events = s.events := rfl
@[simp] theorem State.illegalComplete_resp (s : State) (d : Detail) :
    (s.illegalComplete d).resp = s.resp := rfl
@[simp] theorem State.illegalComplete_busFault (s : State) (d : Detail) :
    (s.illegalComplete d).busFault = s.busFault := rfl
@[simp] theorem State.illegalComplete_draws (s : State) (d : Detail) :
    (s.illegalComplete d).draws = s.draws + 1 := rfl

/-! ### `State.commitBuild` -/

@[simp] theorem State.commitBuild_cfg (s : State) (f : Vector Word 256) (t : BuiltTree) (c : Vector CodeRec 256) :
    (s.commitBuild f t c).cfg = s.cfg := rfl
@[simp] theorem State.commitBuild_busy (s : State) (f : Vector Word 256) (t : BuiltTree) (c : Vector CodeRec 256) :
    (s.commitBuild f t c).busy = s.busy := rfl
@[simp] theorem State.commitBuild_built (s : State) (f : Vector Word 256) (t : BuiltTree) (c : Vector CodeRec 256) :
    (s.commitBuild f t c).built = true := rfl
@[simp] theorem State.commitBuild_inOvf (s : State) (f : Vector Word 256) (t : BuiltTree) (c : Vector CodeRec 256) :
    (s.commitBuild f t c).inOvf = s.inOvf := rfl
@[simp] theorem State.commitBuild_err (s : State) (f : Vector Word 256) (t : BuiltTree) (c : Vector CodeRec 256) :
    (s.commitBuild f t c).err = s.err := rfl
@[simp] theorem State.commitBuild_detail (s : State) (f : Vector Word 256) (t : BuiltTree) (c : Vector CodeRec 256) :
    (s.commitBuild f t c).detail = s.detail := rfl
@[simp] theorem State.commitBuild_result (s : State) (f : Vector Word 256) (t : BuiltTree) (c : Vector CodeRec 256) :
    (s.commitBuild f t c).result = s.result := rfl
@[simp] theorem State.commitBuild_errIndex (s : State) (f : Vector Word 256) (t : BuiltTree) (c : Vector CodeRec 256) :
    (s.commitBuild f t c).errIndex = s.errIndex := rfl
@[simp] theorem State.commitBuild_pend (s : State) (f : Vector Word 256) (t : BuiltTree) (c : Vector CodeRec 256) :
    (s.commitBuild f t c).pend = s.pend := rfl
@[simp] theorem State.commitBuild_ibuf (s : State) (f : Vector Word 256) (t : BuiltTree) (c : Vector CodeRec 256) :
    (s.commitBuild f t c).ibuf = s.ibuf := rfl
@[simp] theorem State.commitBuild_obuf (s : State) (f : Vector Word 256) (t : BuiltTree) (c : Vector CodeRec 256) :
    (s.commitBuild f t c).obuf = s.obuf := rfl
@[simp] theorem State.commitBuild_freq (s : State) (f : Vector Word 256) (t : BuiltTree) (c : Vector CodeRec 256) :
    (s.commitBuild f t c).freq = f := rfl
@[simp] theorem State.commitBuild_node (s : State) (f : Vector Word 256) (t : BuiltTree) (c : Vector CodeRec 256) :
    (s.commitBuild f t c).node = committedNode t.nodes s.draws := rfl
@[simp] theorem State.commitBuild_nodeCount (s : State) (f : Vector Word 256) (t : BuiltTree) (c : Vector CodeRec 256) :
    (s.commitBuild f t c).nodeCount = BitVec.ofNat 10 t.nodes.length := rfl
@[simp] theorem State.commitBuild_root (s : State) (f : Vector Word 256) (t : BuiltTree) (c : Vector CodeRec 256) :
    (s.commitBuild f t c).root = BitVec.ofNat 9 t.root := rfl
@[simp] theorem State.commitBuild_code (s : State) (f : Vector Word 256) (t : BuiltTree) (c : Vector CodeRec 256) :
    (s.commitBuild f t c).code = c := rfl
@[simp] theorem State.commitBuild_held (s : State) (f : Vector Word 256) (t : BuiltTree) (c : Vector CodeRec 256) :
    (s.commitBuild f t c).held = s.held := rfl
@[simp] theorem State.commitBuild_events (s : State) (f : Vector Word 256) (t : BuiltTree) (c : Vector CodeRec 256) :
    (s.commitBuild f t c).events = s.events := rfl
@[simp] theorem State.commitBuild_resp (s : State) (f : Vector Word 256) (t : BuiltTree) (c : Vector CodeRec 256) :
    (s.commitBuild f t c).resp = s.resp := rfl
@[simp] theorem State.commitBuild_busFault (s : State) (f : Vector Word 256) (t : BuiltTree) (c : Vector CodeRec 256) :
    (s.commitBuild f t c).busFault = s.busFault := rfl
@[simp] theorem State.commitBuild_draws (s : State) (f : Vector Word 256) (t : BuiltTree) (c : Vector CodeRec 256) :
    (s.commitBuild f t c).draws = s.draws := rfl

/-! ### `State.takeReset` -/

@[simp] theorem State.takeReset_cfg (s : State) :
    (s.takeReset).cfg = s.cfg := rfl
@[simp] theorem State.takeReset_busy (s : State) :
    (s.takeReset).busy = false := rfl
@[simp] theorem State.takeReset_built (s : State) :
    (s.takeReset).built = false := rfl
@[simp] theorem State.takeReset_inOvf (s : State) :
    (s.takeReset).inOvf = false := rfl
@[simp] theorem State.takeReset_err (s : State) :
    (s.takeReset).err = .ok := rfl
@[simp] theorem State.takeReset_detail (s : State) :
    (s.takeReset).detail = .none := rfl
@[simp] theorem State.takeReset_result (s : State) :
    (s.takeReset).result = 0 := rfl
@[simp] theorem State.takeReset_errIndex (s : State) :
    (s.takeReset).errIndex = 0 := rfl
@[simp] theorem State.takeReset_pend (s : State) :
    (s.takeReset).pend = Config.freePend s.draws := rfl
@[simp] theorem State.takeReset_ibuf (s : State) :
    (s.takeReset).ibuf = [] := rfl
@[simp] theorem State.takeReset_obuf (s : State) :
    (s.takeReset).obuf = [] := rfl
@[simp] theorem State.takeReset_freq (s : State) :
    (s.takeReset).freq = Vector.replicate 256 0 := rfl
@[simp] theorem State.takeReset_node (s : State) :
    (s.takeReset).node = Vector.ofFn fun i => NodeRec.unpack (Config.freeNode s.draws i.val) := rfl
@[simp] theorem State.takeReset_nodeCount (s : State) :
    (s.takeReset).nodeCount = 0 := rfl
@[simp] theorem State.takeReset_root (s : State) :
    (s.takeReset).root = Config.freeRoot s.draws := rfl
@[simp] theorem State.takeReset_code (s : State) :
    (s.takeReset).code = Vector.replicate 256 CodeRec.empty := rfl
@[simp] theorem State.takeReset_held (s : State) :
    (s.takeReset).held = none := rfl
@[simp] theorem State.takeReset_events (s : State) :
    (s.takeReset).events = s.events := rfl
@[simp] theorem State.takeReset_resp (s : State) :
    (s.takeReset).resp = s.resp ++ resetAnswer s.held := rfl
@[simp] theorem State.takeReset_busFault (s : State) :
    (s.takeReset).busFault = s.busFault := rfl
@[simp] theorem State.takeReset_draws (s : State) :
    (s.takeReset).draws = s.draws + 1 := rfl

/-! ### `State.drawn` -/

@[simp] theorem State.drawn_cfg (s : State) :
    (s.drawn).cfg = s.cfg := rfl
@[simp] theorem State.drawn_busy (s : State) :
    (s.drawn).busy = s.busy := rfl
@[simp] theorem State.drawn_built (s : State) :
    (s.drawn).built = s.built := rfl
@[simp] theorem State.drawn_inOvf (s : State) :
    (s.drawn).inOvf = s.inOvf := rfl
@[simp] theorem State.drawn_err (s : State) :
    (s.drawn).err = s.err := rfl
@[simp] theorem State.drawn_detail (s : State) :
    (s.drawn).detail = s.detail := rfl
@[simp] theorem State.drawn_result (s : State) :
    (s.drawn).result = s.result := rfl
@[simp] theorem State.drawn_errIndex (s : State) :
    (s.drawn).errIndex = s.errIndex := rfl
@[simp] theorem State.drawn_pend (s : State) :
    (s.drawn).pend = s.pend := rfl
@[simp] theorem State.drawn_ibuf (s : State) :
    (s.drawn).ibuf = s.ibuf := rfl
@[simp] theorem State.drawn_obuf (s : State) :
    (s.drawn).obuf = s.obuf := rfl
@[simp] theorem State.drawn_freq (s : State) :
    (s.drawn).freq = s.freq := rfl
@[simp] theorem State.drawn_node (s : State) :
    (s.drawn).node = s.node := rfl
@[simp] theorem State.drawn_nodeCount (s : State) :
    (s.drawn).nodeCount = s.nodeCount := rfl
@[simp] theorem State.drawn_root (s : State) :
    (s.drawn).root = s.root := rfl
@[simp] theorem State.drawn_code (s : State) :
    (s.drawn).code = s.code := rfl
@[simp] theorem State.drawn_held (s : State) :
    (s.drawn).held = s.held := rfl
@[simp] theorem State.drawn_events (s : State) :
    (s.drawn).events = s.events := rfl
@[simp] theorem State.drawn_resp (s : State) :
    (s.drawn).resp = s.resp := rfl
@[simp] theorem State.drawn_busFault (s : State) :
    (s.drawn).busFault = s.busFault := rfl
@[simp] theorem State.drawn_draws (s : State) :
    (s.drawn).draws = s.draws + 1 := rfl

/-! ### `State.placeCommand` -/

@[simp] theorem State.placeCommand_cfg (s : State) (w : Word) :
    (s.placeCommand w).cfg = s.cfg := rfl
@[simp] theorem State.placeCommand_busy (s : State) (w : Word) :
    (s.placeCommand w).busy = true := rfl
@[simp] theorem State.placeCommand_built (s : State) (w : Word) :
    (s.placeCommand w).built = s.built := rfl
@[simp] theorem State.placeCommand_inOvf (s : State) (w : Word) :
    (s.placeCommand w).inOvf = s.inOvf := rfl
@[simp] theorem State.placeCommand_err (s : State) (w : Word) :
    (s.placeCommand w).err = s.err := rfl
@[simp] theorem State.placeCommand_detail (s : State) (w : Word) :
    (s.placeCommand w).detail = s.detail := rfl
@[simp] theorem State.placeCommand_result (s : State) (w : Word) :
    (s.placeCommand w).result = s.result := rfl
@[simp] theorem State.placeCommand_errIndex (s : State) (w : Word) :
    (s.placeCommand w).errIndex = s.errIndex := rfl
@[simp] theorem State.placeCommand_pend (s : State) (w : Word) :
    (s.placeCommand w).pend = w := rfl
@[simp] theorem State.placeCommand_ibuf (s : State) (w : Word) :
    (s.placeCommand w).ibuf = s.ibuf := rfl
@[simp] theorem State.placeCommand_obuf (s : State) (w : Word) :
    (s.placeCommand w).obuf = s.obuf := rfl
@[simp] theorem State.placeCommand_freq (s : State) (w : Word) :
    (s.placeCommand w).freq = s.freq := rfl
@[simp] theorem State.placeCommand_node (s : State) (w : Word) :
    (s.placeCommand w).node = s.node := rfl
@[simp] theorem State.placeCommand_nodeCount (s : State) (w : Word) :
    (s.placeCommand w).nodeCount = s.nodeCount := rfl
@[simp] theorem State.placeCommand_root (s : State) (w : Word) :
    (s.placeCommand w).root = s.root := rfl
@[simp] theorem State.placeCommand_code (s : State) (w : Word) :
    (s.placeCommand w).code = s.code := rfl
@[simp] theorem State.placeCommand_held (s : State) (w : Word) :
    (s.placeCommand w).held = s.held := rfl
@[simp] theorem State.placeCommand_events (s : State) (w : Word) :
    (s.placeCommand w).events = [] := rfl
@[simp] theorem State.placeCommand_resp (s : State) (w : Word) :
    (s.placeCommand w).resp = s.resp := rfl
@[simp] theorem State.placeCommand_busFault (s : State) (w : Word) :
    (s.placeCommand w).busFault = s.busFault := rfl
@[simp] theorem State.placeCommand_draws (s : State) (w : Word) :
    (s.placeCommand w).draws = s.draws := rfl

/-! ### `State.placeAccess` -/

@[simp] theorem State.placeAccess_cfg (s : State) (a : Access) :
    (s.placeAccess a).cfg = s.cfg := rfl
@[simp] theorem State.placeAccess_busy (s : State) (a : Access) :
    (s.placeAccess a).busy = false := rfl
@[simp] theorem State.placeAccess_built (s : State) (a : Access) :
    (s.placeAccess a).built = s.built := rfl
@[simp] theorem State.placeAccess_inOvf (s : State) (a : Access) :
    (s.placeAccess a).inOvf = s.inOvf := rfl
@[simp] theorem State.placeAccess_err (s : State) (a : Access) :
    (s.placeAccess a).err = s.err := rfl
@[simp] theorem State.placeAccess_detail (s : State) (a : Access) :
    (s.placeAccess a).detail = s.detail := rfl
@[simp] theorem State.placeAccess_result (s : State) (a : Access) :
    (s.placeAccess a).result = s.result := rfl
@[simp] theorem State.placeAccess_errIndex (s : State) (a : Access) :
    (s.placeAccess a).errIndex = s.errIndex := rfl
@[simp] theorem State.placeAccess_pend (s : State) (a : Access) :
    (s.placeAccess a).pend = s.pend := rfl
@[simp] theorem State.placeAccess_ibuf (s : State) (a : Access) :
    (s.placeAccess a).ibuf = s.ibuf := rfl
@[simp] theorem State.placeAccess_obuf (s : State) (a : Access) :
    (s.placeAccess a).obuf = s.obuf := rfl
@[simp] theorem State.placeAccess_freq (s : State) (a : Access) :
    (s.placeAccess a).freq = s.freq := rfl
@[simp] theorem State.placeAccess_node (s : State) (a : Access) :
    (s.placeAccess a).node = s.node := rfl
@[simp] theorem State.placeAccess_nodeCount (s : State) (a : Access) :
    (s.placeAccess a).nodeCount = s.nodeCount := rfl
@[simp] theorem State.placeAccess_root (s : State) (a : Access) :
    (s.placeAccess a).root = s.root := rfl
@[simp] theorem State.placeAccess_code (s : State) (a : Access) :
    (s.placeAccess a).code = s.code := rfl
@[simp] theorem State.placeAccess_held (s : State) (a : Access) :
    (s.placeAccess a).held = none := rfl
@[simp] theorem State.placeAccess_events (s : State) (a : Access) :
    (s.placeAccess a).events = .access a :: s.events := rfl
@[simp] theorem State.placeAccess_resp (s : State) (a : Access) :
    (s.placeAccess a).resp = s.resp := rfl
@[simp] theorem State.placeAccess_busFault (s : State) (a : Access) :
    (s.placeAccess a).busFault = s.busFault := rfl
@[simp] theorem State.placeAccess_draws (s : State) (a : Access) :
    (s.placeAccess a).draws = s.draws := rfl

/-! ### `State.push`, whose branch decides between two fields -/

@[simp] theorem State.push_cfg (s : State) (u : Byte) : (s.push u).cfg = s.cfg := by
  unfold State.push; split <;> rfl
@[simp] theorem State.push_busy (s : State) (u : Byte) : (s.push u).busy = s.busy := by
  unfold State.push; split <;> rfl
@[simp] theorem State.push_built (s : State) (u : Byte) : (s.push u).built = s.built := by
  unfold State.push; split <;> rfl
@[simp] theorem State.push_err (s : State) (u : Byte) : (s.push u).err = s.err := by
  unfold State.push; split <;> rfl
@[simp] theorem State.push_detail (s : State) (u : Byte) : (s.push u).detail = s.detail := by
  unfold State.push; split <;> rfl
@[simp] theorem State.push_result (s : State) (u : Byte) : (s.push u).result = s.result := by
  unfold State.push; split <;> rfl
@[simp] theorem State.push_errIndex (s : State) (u : Byte) : (s.push u).errIndex = s.errIndex := by
  unfold State.push; split <;> rfl
@[simp] theorem State.push_pend (s : State) (u : Byte) : (s.push u).pend = s.pend := by
  unfold State.push; split <;> rfl
@[simp] theorem State.push_obuf (s : State) (u : Byte) : (s.push u).obuf = s.obuf := by
  unfold State.push; split <;> rfl
@[simp] theorem State.push_freq (s : State) (u : Byte) : (s.push u).freq = s.freq := by
  unfold State.push; split <;> rfl
@[simp] theorem State.push_node (s : State) (u : Byte) : (s.push u).node = s.node := by
  unfold State.push; split <;> rfl
@[simp] theorem State.push_nodeCount (s : State) (u : Byte) : (s.push u).nodeCount = s.nodeCount := by
  unfold State.push; split <;> rfl
@[simp] theorem State.push_root (s : State) (u : Byte) : (s.push u).root = s.root := by
  unfold State.push; split <;> rfl
@[simp] theorem State.push_code (s : State) (u : Byte) : (s.push u).code = s.code := by
  unfold State.push; split <;> rfl
@[simp] theorem State.push_held (s : State) (u : Byte) : (s.push u).held = s.held := by
  unfold State.push; split <;> rfl
@[simp] theorem State.push_events (s : State) (u : Byte) : (s.push u).events = s.events := by
  unfold State.push; split <;> rfl
@[simp] theorem State.push_resp (s : State) (u : Byte) : (s.push u).resp = s.resp := by
  unfold State.push; split <;> rfl
@[simp] theorem State.push_busFault (s : State) (u : Byte) : (s.push u).busFault = s.busFault := by
  unfold State.push; split <;> rfl
@[simp] theorem State.push_draws (s : State) (u : Byte) : (s.push u).draws = s.draws := by
  unfold State.push; split <;> rfl

end Sys2Proof.Machine
end

