-- ==== Sys2Proof/Laws/Tables.lean ====
section
/-!
SUPPORT. The tables indexed by a symbol, marker units and stored codes: what a read after a write gives, and that storing a code of at most 255
markers loses nothing.
-/

namespace Sys2Proof.Machine

open Sys2Proof

/-! ### Table entries -/

@[simp] theorem entry_setEntry_same {α : Type} (t : Vector α 256) (v : Byte) (x : α) :
    entry (setEntry t v x) v = x := by
  simp [entry, setEntry]

@[simp] theorem entry_setEntry_ne {α : Type} (t : Vector α 256) {v w : Byte} (x : α) (h : w ≠ v) :
    entry (setEntry t v x) w = entry t w := by
  have hne : v.toNat ≠ w.toNat := fun e => h (BitVec.eq_of_toNat_eq e.symm)
  simp [entry, setEntry, hne]

@[simp] theorem entry_replicate {α : Type} (x : α) (v : Byte) : entry (Vector.replicate 256 x) v = x := by
  simp [entry]

/-- Two tables with the same entries are the same table. -/
theorem table_ext {α : Type} {t u : Vector α 256} (h : ∀ v, entry t v = entry u v) : t = u := by
  apply Vector.ext
  intro i hi
  have := h (BitVec.ofNat 8 i)
  simpa [entry, Nat.mod_eq_of_lt hi] using this

/-! ### Markers and units -/

@[simp] theorem Marker.ofUnit_unit (m : Marker) : Marker.ofUnit m.unit = some m := by
  cases m <;> decide

theorem Marker.ofUnit_eq_some {u : Byte} {m : Marker} : Marker.ofUnit u = some m ↔ u = m.unit := by
  constructor
  · intro h
    unfold Marker.ofUnit at h
    split at h
    · cases h; assumption
    · split at h
      · cases h; assumption
      · cases h
  · rintro rfl; exact Marker.ofUnit_unit m

/-- A unit is no marker exactly when it is neither MARK0 nor MARK1 (43_decode.md R178). -/
theorem Marker.ofUnit_eq_none {u : Byte} :
    Marker.ofUnit u = none ↔ u ≠ Config.mark0 ∧ u ≠ Config.mark1 := by
  unfold Marker.ofUnit
  split
  · simp_all
  · split <;> simp_all

@[simp] theorem Marker.ofBit_bit (m : Marker) : Marker.ofBit m.bit = m := by cases m <;> rfl

/-! ### Stored codes (30_encoding.md R97) -/

theorem packMarkers_testBit (p : List Marker) (j : Nat) :
    (packMarkers p).testBit j = (p[j]?.map Marker.bit).getD false := by
  induction p generalizing j with
  | nil => simp [packMarkers]
  | cons m ms ih =>
    cases j with
    | zero => cases m <;> simp [packMarkers, Marker.bit, Nat.testBit_zero]
    | succ j =>
      have h2 : (packMarkers (m :: ms)) / 2 = packMarkers ms := by
        cases m <;> simp [packMarkers, Marker.bit]; omega
      rw [Nat.testBit_succ, h2, ih]
      simp

@[simp] theorem CodeRec.length_markers (c : CodeRec) : c.markers.length = c.len.toNat := by
  simp [CodeRec.markers]

@[simp] theorem CodeRec.length_units (c : CodeRec) : c.units.length = c.len.toNat := by
  simp [CodeRec.units]

@[simp] theorem CodeRec.markers_empty : CodeRec.empty.markers = [] := rfl

/-- Storing a code of at most 255 markers and reading it back gives the code. -/
theorem CodeRec.markers_ofMarkers {p : List Marker} (h : p.length ≤ 255) :
    (CodeRec.ofMarkers p).markers = p := by
  apply List.ext_getElem
  · simp [CodeRec.ofMarkers]; omega
  · intro j h1 h2
    have hj : j < 255 := by omega
    have hbit : (BitVec.ofNat 255 (packMarkers p)).getLsbD j = p[j].bit := by
      rw [BitVec.getLsbD_ofNat, packMarkers_testBit]
      simp [hj, h2]
    simp [CodeRec.markers, CodeRec.ofMarkers, hbit]

/-- A stored code has no marker exactly when its length is 0. -/
theorem CodeRec.markers_eq_nil {c : CodeRec} : c.markers = [] ↔ c.len = 0 := by
  rw [← List.length_eq_zero_iff, CodeRec.length_markers]
  constructor
  · intro h; apply BitVec.eq_of_toNat_eq; simpa using h
  · rintro h; rw [h]; rfl

end Sys2Proof.Machine
end

