-- ==== Sys2Proof/Laws/Ops.lean ====
section
/-!
SUPPORT. For each shared operation one lemma that says everything it can do: the hold, the next event, the scans of ENCODE and DECODE, the priority
structure and the merge step.
-/

namespace Sys2Proof.Machine

open Sys2Proof

/-! ### Host accesses -/

/-- An access that is held while BUSY = 1: it is held, or performed. -/
theorem hostAccess_next {s t : State} {a : Access} {done : State}
    (h : hostAccess s a done = .next t) :
    (s.busy = true ∧ t = s.hold a) ∨ (s.busy = false ∧ t = done) := by
  unfold hostAccess at h
  cases hb : s.busy <;> simp [hb] at h <;> simp [h]

theorem hostAccess_idle {s : State} {a : Access} {done : State} (h : s.busy = false) :
    hostAccess s a done = .next done := by simp [hostAccess, h]

theorem hostAccess_busy {s : State} {a : Access} {done : State} (h : s.busy = true) :
    hostAccess s a done = .next (s.hold a) := by simp [hostAccess, h]

/-! ### The next event -/

/-- What the outside world does next, and how the list of events gets shorter. -/
theorem fromOutside_cases (s : State) :
    (s.events = [] ∧ s.fromOutside = .idle) ∨
    (∃ a es, s.events = .access a :: es ∧ s.fromOutside = .access a { s with events := es }) ∨
    (∃ es, s.events = .reset :: es ∧ s.fromOutside = .reset { s with events := es }) := by
  unfold State.fromOutside
  rcases s.events with _ | ⟨a | _, es⟩
  · exact .inl ⟨rfl, rfl⟩
  · exact .inr (.inl ⟨a, es, rfl, rfl⟩)
  · exact .inr (.inr ⟨es, rfl, rfl⟩)

/-- Everything the next event can be. The last two cases of BUSY = 1 are the free choice (log 3). -/
theorem fetch_cases (s : State) :
    (s.busy = true ∧ s.contested = false ∧ s.fetch = .command s) ∨
    (s.busy = true ∧ s.contested = true ∧ s.fetch = .command s.drawn) ∨
    (s.busy = true ∧ s.contested = true ∧ s.fetch = s.drawn.fromOutside) ∨
    (s.busy = false ∧ ∃ a, s.held = some a ∧ s.fetch = .access a { s with held := none }) ∨
    (s.busy = false ∧ s.held = none ∧ s.fetch = s.fromOutside) := by
  unfold State.fetch
  cases hb : s.busy
  · cases hh : s.held
    · simp
    · simp
  · cases hc : s.contested
    · simp
    · cases he : Config.engineFirst s.draws <;> simp

/-- A command placed is the next event. -/
theorem fetch_placeCommand (s : State) (w : Word) :
    (s.placeCommand w).fetch = .command (s.placeCommand w) := by
  unfold State.fetch State.contested
  cases h : s.held <;> simp [h]

/-- An access placed is the next event. -/
theorem fetch_placeAccess (s : State) (a : Access) :
    (s.placeAccess a).fetch = .access a { s with busy := false, held := none } := rfl

/-! ### ENCODE -/

/-- The scan succeeds with the codes concatenated, or raises one of its two errors at an index of the input. -/
theorem encodeScan_cases (c : Vector CodeRec 256) (depth i : Nat) (out us : List Byte) :
    (encodeScan c depth i out us = .success (out ++ us.flatMap fun u => (entry c u).units) ∧
      ∀ u ∈ us, (entry c u).len ≠ 0) ∨
    (∃ k, k < us.length ∧ encodeScan c depth i out us = .raised .unknownSymbol .none (i + k) 0) ∨
    (∃ k, k < us.length ∧
      encodeScan c depth i out us = .raised .capacityExceeded .outOverflow (i + k) 0) := by
  induction us generalizing i out with
  | nil => exact .inl ⟨by simp [encodeScan], by simp⟩
  | cons u us ih =>
    by_cases h0 : (entry c u).len = 0
    · exact .inr (.inl ⟨0, by simp, by simp [encodeScan, h0]⟩)
    by_cases h1 : out.length + (entry c u).len.toNat > depth
    · exact .inr (.inr ⟨0, by simp, by rw [encodeScan]; simp only [h0, h1, if_false, if_true, Nat.add_zero]⟩)
    have hstep : encodeScan c depth i out (u :: us) =
        encodeScan c depth (i + 1) (out ++ (entry c u).units) us := by
      rw [encodeScan]; simp only [h0, h1, if_false]
    rw [hstep]
    obtain ⟨h, hall⟩ | ⟨k, hk, h⟩ | ⟨k, hk, h⟩ := ih (i + 1) (out ++ (entry c u).units)
    · exact .inl ⟨by rw [h]; simp, by simpa using ⟨h0, hall⟩⟩
    · exact .inr (.inl ⟨k + 1, by simp [hk], by rw [h]; congr 1; omega⟩)
    · exact .inr (.inr ⟨k + 1, by simp [hk], by rw [h]; congr 1; omega⟩)

/-! ### DECODE -/

/-- The walk stops outside the arena, succeeds, or raises one of DECODE's own errors. -/
theorem decodeWalk_cases (s : State) (i : Nat) (cur : BitVec 9) (out us : List Byte) :
    decodeWalk s i cur out us = none ∨
    (∃ v, decodeWalk s i cur out us = some (.success v)) ∨
    (∃ k r, decodeWalk s i cur out us = some (.raised .invalidEncoding .badMarker k r)) ∨
    (∃ k r, decodeWalk s i cur out us = some (.raised .invalidEncoding .noChild k r)) ∨
    (∃ k r, decodeWalk s i cur out us = some (.raised .incompleteSequence .none k r)) := by
  induction us generalizing i cur out with
  | nil =>
    by_cases h : cur = s.root
    · exact .inr (.inl ⟨out, by simp [decodeWalk, h]⟩)
    · exact .inr (.inr (.inr (.inr ⟨i, out.length, by simp [decodeWalk, h]⟩)))
  | cons u us ih =>
    rw [decodeWalk]
    split
    · exact .inr (.inr (.inl ⟨_, _, rfl⟩))
    · split
      · exact .inl rfl
      · split
        · exact .inr (.inr (.inr (.inl ⟨_, _, rfl⟩)))
        · split
          · exact .inl rfl
          · split <;> exact ih _ _ _

/-! ### The priority structure and the merge step -/

theorem leastKey_mem (nodes : List NodeRec) (best : Nat) (q : List Nat) :
    leastKey nodes best q ∈ best :: q := by
  induction q generalizing best with
  | nil => simp [leastKey]
  | cons x xs ih =>
    rw [leastKey]
    have := ih (if keyLt nodes x best then x else best)
    rcases List.mem_cons.mp this with h | h
    · rw [h]; split <;> simp
    · simp [h]

/-- extract-min answers for every set that is not empty, with a member and the set without it. -/
theorem extractMin_some {nodes : List NodeRec} {q q' : List Nat} {a : Nat}
    (h : extractMin nodes q = some (a, q')) : a ∈ q ∧ q' = q.erase a := by
  cases q with
  | nil => cases h
  | cons x xs =>
    simp only [extractMin, Option.some.injEq, Prod.mk.injEq] at h
    obtain ⟨rfl, rfl⟩ := h
    exact ⟨leastKey_mem nodes x xs, rfl⟩

theorem extractMin_eq_none {nodes : List NodeRec} {q : List Nat} :
    extractMin nodes q = none ↔ q = [] := by
  cases q <;> simp [extractMin]

/-- What a merge step does: it takes two members of Q and appends their parent, which it inserts in Q. -/
theorem mergeStep_some {nodes nodes' : List NodeRec} {q q' : List Nat}
    (h : mergeStep nodes q = some (nodes', q')) :
    ∃ a b, a ∈ q ∧ b ∈ q.erase a ∧
      nodes' = nodes ++ [NodeRec.internal (freqAt nodes a + freqAt nodes b)
        (some (BitVec.ofNat 9 a)) (some (BitVec.ofNat 9 b))] ∧
      q' = (q.erase a).erase b ++ [nodes.length] := by
  unfold mergeStep at h
  split at h
  · cases h
  · rename_i a q1 h1
    split at h
    · cases h
    · rename_i b q2 h2
      obtain ⟨ha, rfl⟩ := extractMin_some h1
      obtain ⟨hb, rfl⟩ := extractMin_some h2
      simp only [Option.some.injEq, Prod.mk.injEq] at h
      exact ⟨a, b, ha, hb, h.1.symm, h.2.symm⟩

end Sys2Proof.Machine
end

