-- ==== Sys2Proof/Laws/PerInstr.lean ====
section
/-!
SUPPORT. Statements about every instruction as syntax, with one lemma per constructor: the encoded form of a well-formed instruction fits the
"mask" and "match" of its row of spec/opcode_table.json.
-/

namespace Sys2Proof.Laws.EncodedFitsRow

open Sys2Proof

/-- The mask and the match of the instruction's row in spec/opcode_table.json. -/
def row : Instr → Nat × Nat
  | .build => (0xFFFFFFFF, 0x00000001)
  | .encode => (0xFFFFFFFF, 0x00000002)
  | .decode => (0xFFFFFFFF, 0x00000003)
  | .readFreq _ => (0xFFFF00FF, 0x00000004)
  | .readCode _ => (0xFFFF00FF, 0x00000005)
  | .illegal _ _ _ _ => (0x00000000, 0x00000000)
  | .wrCmd _ => (0xFF, 0x00)
  | .rdStatus => (0xFF, 0x04)
  | .rdResult => (0xFF, 0x08)
  | .rdErrIndex => (0xFF, 0x0C)
  | .wrInData _ => (0xFF, 0x10)
  | .rdInCount => (0xFF, 0x14)
  | .rdOutData => (0xFF, 0x18)
  | .rdOutCount => (0xFF, 0x1C)
  | .rdWriteOnly _ => (0xEF, 0x00)
  | .wrStatus _ => (0xFF, 0x04)
  | .wrResult _ => (0xFF, 0x08)
  | .wrErrIndex _ => (0xFF, 0x0C)
  | .wrInCount _ => (0xFF, 0x14)
  | .wrOutData _ => (0xFF, 0x18)
  | .wrOutCount _ => (0xFF, 0x1C)
  | .busError _ => (0x00, 0x00)

/-- The bits the table numbers: the command word, or the offset of an access. -/
def tableBits : Encoded → Nat
  | .command w => w.toNat
  | .access a => a.off.toNat

/-- The table's bits of the encoded instruction, under the row's mask, are the row's match. -/
def Statement (i : Instr) : Prop :=
  i.wellFormed = true → tableBits (encode i) &&& (row i).1 = (row i).2

theorem build : Statement .build := fun _ => rfl
theorem encode : Statement .encode := fun _ => rfl
theorem decode : Statement .decode := fun _ => rfl
theorem readFreq (sym : Byte) : Statement (.readFreq sym) := fun _ => by
  revert sym; decide +kernel
theorem readCode (sym : Byte) : Statement (.readCode sym) := fun _ => by
  revert sym; decide +kernel
theorem illegal (op rsv0 : BitVec 4) (sym : Byte) (rsv1 : BitVec 16) :
    Statement (.illegal op rsv0 sym rsv1) := fun _ => Nat.and_zero _
theorem wrCmd (w : Word) : Statement (.wrCmd w) := fun _ => by
  show (0x00 : Nat) &&& 0xFF = 0x00; decide
theorem rdStatus : Statement .rdStatus := fun _ => rfl
theorem rdResult : Statement .rdResult := fun _ => rfl
theorem rdErrIndex : Statement .rdErrIndex := fun _ => rfl
theorem wrInData (w : Word) : Statement (.wrInData w) := fun _ => by
  show (0x10 : Nat) &&& 0xFF = 0x10; decide
theorem rdInCount : Statement .rdInCount := fun _ => rfl
theorem rdOutData : Statement .rdOutData := fun _ => rfl
theorem rdOutCount : Statement .rdOutCount := fun _ => rfl
theorem rdWriteOnly (reg : WriteOnlyReg) : Statement (.rdWriteOnly reg) := fun _ => by
  cases reg <;> rfl
theorem wrStatus (w : Word) : Statement (.wrStatus w) := fun _ => by
  show (0x04 : Nat) &&& 0xFF = 0x04; decide
theorem wrResult (w : Word) : Statement (.wrResult w) := fun _ => by
  show (0x08 : Nat) &&& 0xFF = 0x08; decide
theorem wrErrIndex (w : Word) : Statement (.wrErrIndex w) := fun _ => by
  show (0x0C : Nat) &&& 0xFF = 0x0C; decide
theorem wrInCount (w : Word) : Statement (.wrInCount w) := fun _ => by
  show (0x14 : Nat) &&& 0xFF = 0x14; decide
theorem wrOutData (w : Word) : Statement (.wrOutData w) := fun _ => by
  show (0x18 : Nat) &&& 0xFF = 0x18; decide
theorem wrOutCount (w : Word) : Statement (.wrOutCount w) := fun _ => by
  show (0x1C : Nat) &&& 0xFF = 0x1C; decide
theorem busError (a : Access) : Statement (.busError a) := fun _ => Nat.and_zero _

end Sys2Proof.Laws.EncodedFitsRow
end

