-- ==== Sys2Proof/Tests/Slice0.lean ====
section
/-!
SUPPORT. The model's own tests: ill-formed terms that the checks refuse, words written out from the spec's encodings, one-step tests with the
expected results of 95_test_vectors.md, and for every statement with hypotheses a state and operands that meet them.
-/

namespace Sys2Proof.Tests

open Sys2Proof Sys2Proof.Machine

set_option Elab.async false

/-! ### Small states -/

/-- A field of the state that a step answered, if it answered one. -/
def look {α : Type} (o : Host.Outcome State Fault Refusal) (f : State → α) : Option α :=
  match o with
  | .next t => some (f t)
  | .fault _ => none
  | .refused _ => none

/-- The reset state with the given input. -/
def withInput (u : List Byte) : State := { State.reset with ibuf := u }

/-- "abc", "ab" and "aaa" as units (00_scope.md R11). -/
def abc : List Byte := [0x61, 0x62, 0x63]
def ab : List Byte := [0x61, 0x62]
def aaa : List Byte := [0x61, 0x61, 0x61]

/-- The trees of BUILD "abc", "ab" and "aaa", written out by 41_build.md R134 to R138 (vectors B-2, S-4 and D-7). -/
def treeAbc : BuiltTree :=
  { nodes := [NodeRec.leafOf 0x63 1, NodeRec.leafOf 0x62 1, NodeRec.leafOf 0x61 1,
      NodeRec.internal 2 (some 0) (some 1), NodeRec.internal 3 (some 2) (some 3)]
    root := 4 }
def treeAb : BuiltTree :=
  { nodes := [NodeRec.leafOf 0x62 1, NodeRec.leafOf 0x61 1, NodeRec.internal 2 (some 0) (some 1)], root := 2 }
def treeAaa : BuiltTree := { nodes := [NodeRec.leafOf 0x61 3, NodeRec.internal 3 (some 0) none], root := 1 }

/-- The reset state with the counts of `u`, the tree `t` and its codes, the depths 8 and 8, and the given input. -/
def afterTree (u : List Byte) (t : BuiltTree) (input : List Byte) : State :=
  { State.reset with
    cfg := { ibufDepth := 8, obufDepth := 8, base := 0 }
    built := true
    freq := count u
    node := committedNode t.nodes 0
    nodeCount := BitVec.ofNat 10 t.nodes.length
    root := BitVec.ofNat 9 t.root
    code := codes t
    ibuf := input }

/-- The states after BUILD "abc", "ab" and "aaa". -/
abbrev afterAbc (input : List Byte) : State := afterTree abc treeAbc input
abbrev afterAb (input : List Byte) : State := afterTree ab treeAb input
abbrev afterAaa (input : List Byte) : State := afterTree aaa treeAaa input

/-- The reset state with BUSY = 1 and the given command word pending. -/
def running (w : Word) : State := { State.reset with busy := true, pend := w }

/-! ### WellFormed: an ill-formed term for each check -/

/-- OP 1 with no reserved bit set is BUILD, no illegal word (30_encoding.md R89). -/
theorem test_wf_legal_word_is_not_illegal : (Instr.illegal 1 0 0 0).wellFormed = false := by decide
/-- READ_FREQ takes any SYM, so this is no illegal word either (R88). -/
theorem test_wf_read_freq_is_not_illegal : (Instr.illegal 4 0 0x6C 0).wellFormed = false := by decide
/-- A 32-bit aligned access in the map is no bus error (20_memory.md R62 to R64). -/
theorem test_wf_legal_access_is_no_bus_error : (Instr.busError (.read 32 0x1C)).wellFormed = false := by decide
theorem test_wf_legal_write_is_no_bus_error : (Instr.busError (.write 32 0x00 5)).wellFormed = false := by decide
/-- Each ground of an illegal word and of a bus error, one by one. -/
theorem test_wf_grounds :
    (Instr.illegal 0 0 0 0).wellFormed = true ∧ (Instr.illegal 6 0 0 0).wellFormed = true ∧
    (Instr.illegal 1 1 0 0).wellFormed = true ∧ (Instr.illegal 4 0 0 1).wellFormed = true ∧
    (Instr.illegal 3 0 1 0).wellFormed = true ∧ (Instr.busError (.read 16 0x04)).wellFormed = true ∧
    (Instr.busError (.write 32 0x02 0)).wellFormed = true ∧ (Instr.busError (.read 32 0x20)).wellFormed = true := by
  decide

/-! ### Decoding, from words written out from 30_encoding.md R85, R86 and offsets of 20_memory.md R61 -/

theorem test_decode_build : decodeCommand 0b00000000000000000000000000000001#32 = .build := by decide
theorem test_decode_encode : decodeCommand 0b00000000000000000000000000000010#32 = .encode := by decide
theorem test_decode_decode : decodeCommand 0b00000000000000000000000000000011#32 = .decode := by decide
/-- RSV1 = 0, SYM = 0x6C ('l'), RSV0 = 0, OP = 4 (vector A-1). -/
theorem test_decode_read_freq : decodeCommand 0b00000000000000000110110000000100#32 = .readFreq 0x6C := by decide
/-- RSV1 = 0, SYM = 0x77 ('w'), RSV0 = 0, OP = 5 (vector A-2). -/
theorem test_decode_read_code : decodeCommand 0b00000000000000000111011100000101#32 = .readCode 0x77 := by decide
/-- BUILD with SYM = 1 (vector H-2). -/
theorem test_decode_illegal : decodeCommand 0b00000000000000000000000100000001#32 = .illegal 1 0 1 0 := by decide
theorem test_decode_writes :
    decodeAccess (.write 32 0b00000000 7) = .wrCmd 7 ∧ decodeAccess (.write 32 0b00000100 7) = .wrStatus 7 ∧
    decodeAccess (.write 32 0b00001000 7) = .wrResult 7 ∧ decodeAccess (.write 32 0b00001100 7) = .wrErrIndex 7 ∧
    decodeAccess (.write 32 0b00010000 7) = .wrInData 7 ∧ decodeAccess (.write 32 0b00010100 7) = .wrInCount 7 ∧
    decodeAccess (.write 32 0b00011000 7) = .wrOutData 7 ∧ decodeAccess (.write 32 0b00011100 7) = .wrOutCount 7 := by
  decide
theorem test_decode_reads :
    decodeAccess (.read 32 0b00000000) = .rdWriteOnly .cmd ∧ decodeAccess (.read 32 0b00000100) = .rdStatus ∧
    decodeAccess (.read 32 0b00001000) = .rdResult ∧ decodeAccess (.read 32 0b00001100) = .rdErrIndex ∧
    decodeAccess (.read 32 0b00010000) = .rdWriteOnly .inData ∧ decodeAccess (.read 32 0b00010100) = .rdInCount ∧
    decodeAccess (.read 32 0b00011000) = .rdOutData ∧ decodeAccess (.read 32 0b00011100) = .rdOutCount := by decide
/-- Vectors H-13 to H-15. -/
theorem test_decode_bus_errors :
    decodeAccess (.read 32 0x20) = .busError (.read 32 0x20) ∧ decodeAccess (.read 8 0x04) = .busError (.read 8 0x04) ∧
    decodeAccess (.read 32 0x06) = .busError (.read 32 0x06) := by decide
/-- Lanes of 0x00006C04, least significant first (20_memory.md R66). -/
theorem test_decode_lanes :
    (decodeLanes [0x04, 0x6C, 0x00, 0x00, 0xFF]).toOption = some (.readFreq 0x6C, [0xFF]) := by decide
theorem test_decode_lanes_short : (decodeLanes [0x04, 0x6C, 0x00]).toOption = none := by decide
/-- The table's bits: a command word, and an offset. -/
theorem test_table_words :
    decodeTableWord 32 0x00006105 = some (.readCode 0x61) ∧ decodeTableWord 8 0x18 = some .rdOutData ∧
    decodeTableWord 8 0x00 = some (.wrCmd 0) := by decide

/-! ### One step -/

/-- Vector B-2: RESULT = 3, ROOT = 4, NODE_COUNT = 5. -/
theorem test_build_abc :
    look (exec .build (withInput abc)) (fun t => (t.result, t.root, t.nodeCount, t.built, t.ibuf)) =
      some (3, 4, 5, true, []) := by decide +kernel
/-- Vector B-2: a "0", c "10", b "11". -/
theorem test_build_abc_codes :
    look (exec .build (withInput abc))
      (fun t => ((entry t.code 0x61).units, (entry t.code 0x63).units, (entry t.code 0x62).units)) =
      some ([0x30], [0x31, 0x30], [0x31, 0x31]) := by decide +kernel
/-- Vector E-1. -/
theorem test_encode_abc :
    look (exec .encode (afterAbc abc)) (fun t => (t.obuf, t.result, t.status)) =
      some ([0x30, 0x31, 0x31, 0x31, 0x30], 5, 0x00000002) := by decide +kernel
/-- Vector E-8: the unknown 'd' at index 2. -/
theorem test_encode_unknown :
    look (exec .encode (afterAbc [0x61, 0x62, 0x64])) (fun t => (t.obuf, t.errIndex, t.status)) =
      some ([], 2, 0x00000032) := by decide +kernel
/-- Vector D-1. -/
theorem test_decode_cmd_abc :
    look (exec .decode (afterAbc [0x30, 0x31, 0x31, 0x31, 0x30])) (fun t => (t.obuf, t.result, t.status)) =
      some (abc, 3, 0x00000002) := by decide +kernel
/-- Vector D-7: MARK1 at the single-symbol root, index 3, three symbols decoded. -/
theorem test_decode_cmd_no_child :
    look (exec .decode (afterAaa [0x30, 0x30, 0x30, 0x31])) (fun t => (t.obuf, t.errIndex, t.result, t.status)) =
      some ([], 3, 3, 0x00000242) := by decide +kernel
/-- Vector A-6: READ_FREQ 'a' after BUILD "abc" keeps OBUF. -/
theorem test_read_freq :
    look (exec (.readFreq 0x61) { afterAbc [] with obuf := [0x30] }) (fun t => (t.result, t.obuf)) =
      some (1, [0x30]) := by decide +kernel
/-- Vector A-6: READ_CODE 'b' replaces OBUF. -/
theorem test_read_code :
    look (exec (.readCode 0x62) { afterAbc [] with obuf := [0x30] }) (fun t => (t.result, t.obuf)) =
      some (2, [0x31, 0x31]) := by decide +kernel
/-- Vectors H-2 and H-6. -/
theorem test_illegal :
    look (exec (.illegal 1 0 1 0) State.reset) State.status = some 0x00000670 ∧
    look (exec (.illegal 0 15 0 0) State.reset) State.status = some 0x00000570 := by decide +kernel
theorem test_wr_cmd :
    look (exec (.wrCmd 2) State.reset) (fun t => (t.busy, t.pend)) = some (true, 2) := by decide +kernel
/-- Vector H-17: STATUS while BUSY shows the previous record. -/
theorem test_rd_status :
    look (exec .rdStatus { running 2 with built := true }) (fun t => t.resp) =
      some [.data 0x00000003] := by decide +kernel
theorem test_rd_result :
    look (exec .rdResult { State.reset with result := 7 }) (fun t => t.resp) = some [.data 7] := by decide +kernel
theorem test_rd_result_held :
    look (exec .rdResult (running 1)) (fun t => (t.held, t.resp)) = some (some (.read 32 0x08), []) := by
  decide +kernel
theorem test_rd_err_index :
    look (exec .rdErrIndex { State.reset with errIndex := 9 }) (fun t => t.resp) = some [.data 9] := by decide +kernel
/-- Vector H-12: bits 31:8 are ignored. -/
theorem test_wr_in_data :
    look (exec (.wrInData 0xFFFFFF61) State.reset) (fun t => (t.ibuf, t.inOvf)) = some ([0x61], false) := by
  decide +kernel
/-- Vector H-16: the unit that does not fit is discarded. -/
theorem test_wr_in_data_full :
    look (exec (.wrInData 0x65) { afterAb [1, 2, 3, 4, 5, 6, 7, 8] with built := false })
      (fun t => (t.ibuf.length, t.status)) = some (8, 0x00000004) := by decide +kernel
theorem test_rd_in_count :
    look (exec .rdInCount (withInput abc)) (fun t => t.resp) = some [.data 3] := by decide +kernel
/-- Program P-1, access 13: 0x100 | 0x30. -/
theorem test_rd_out_data :
    look (exec .rdOutData { State.reset with obuf := [0x30, 0x31] }) (fun t => (t.resp, t.obuf)) =
      some ([.data 0x00000130], [0x31]) := by decide +kernel
/-- Vector H-11. -/
theorem test_rd_out_data_empty :
    look (exec .rdOutData State.reset) (fun t => (t.resp, t.obuf)) = some ([.data 0x00000000], []) := by
  decide +kernel
theorem test_rd_out_count :
    look (exec .rdOutCount { State.reset with obuf := [0x30, 0x31] }) (fun t => t.resp) = some [.data 2] := by
  decide +kernel
/-- Vector H-9. -/
theorem test_rd_write_only :
    look (exec (.rdWriteOnly .inData) (withInput abc)) (fun t => (t.resp, t.ibuf)) =
      some ([.data 0x00000000], abc) := by decide +kernel
/-- Vector H-10, and the other five ignored writes. -/
theorem test_ignored_writes :
    exec (.wrStatus 0xFFFFFFFF) State.reset = .next { State.reset with resp := [.done] } ∧
    exec (.wrResult 1) State.reset = .next { State.reset with resp := [.done] } ∧
    exec (.wrErrIndex 1) State.reset = .next { State.reset with resp := [.done] } ∧
    exec (.wrInCount 1) State.reset = .next { State.reset with resp := [.done] } ∧
    exec (.wrOutData 1) State.reset = .next { State.reset with resp := [.done] } ∧
    exec (.wrOutCount 1) State.reset = .next { State.reset with resp := [.done] } :=
  ⟨rfl, rfl, rfl, rfl, rfl, rfl⟩
theorem test_bus_error :
    look (exec (.busError (.read 8 0x04)) (running 1)) (fun t => (t.resp, t.busFault, t.busy, t.held)) =
      some ([.busError], true, true, none) := by decide +kernel
/-- Vector RS-3: a held read returns 0 and the tree is gone. -/
theorem test_reset_event :
    look (.next { running 1 with built := true, held := some (.read 32 0x08), ibuf := abc }.takeReset)
      (fun t => (t.status, t.resp, t.held, t.ibuf)) = some (0, [.data 0x00000000], none, []) := by decide +kernel
/-- A word placed runs at the next step from reset. -/
theorem test_with_fetch_word :
    look (step (State.reset.withFetchWord 32 0x00000006)) State.status = some 0x00000570 ∧
    look (step (State.reset.withFetchWord 8 0x04)) (fun t => t.resp) = some [.data 0x00000000] := by decide +kernel

/-! ### States and operands that meet the statements' hypotheses -/

theorem node_afterTree {u : List Byte} {t : BuiltTree} (input : List Byte) {i : Nat} (hi : i < t.nodes.length)
    (hnodes : t.nodes.length ≤ 511) : (afterTree u t input).node[i]? = t.nodes[i]? := by
  have h511 : i < 511 := Nat.lt_of_lt_of_le hi hnodes
  simp [afterTree, committedNode, h511, hi]

/-- The tables of `afterTree` are a BUILD's, if the tree is. -/
theorem builtFrom_afterTree {u : List Byte} {t : BuiltTree} (input : List Byte) (ht : tree (count u) = t) (hne : u ≠ [])
    (hlen : u.length ≤ 8) (hnodes : t.nodes.length ≤ 511) : BuiltFrom (afterTree u t input) u where
  nonempty := hne
  fits := hlen
  freq := rfl
  nodes := by
    rw [ht]
    exact fun i hi => node_afterTree input hi hnodes
  nodeCount := by rw [ht]; rfl
  root := by rw [ht]; rfl
  code := by rw [ht]; rfl

theorem wellFormed_of_params {s : State} (p : Config.Params) (h : s.cfg = p) (hp : p.WellFormed) : s.cfg.WellFormed := by
  rw [h]; exact hp

theorem witness_built_abc (input : List Byte) :
    BuiltFrom (afterAbc input) abc ∧ (afterAbc input).cfg.WellFormed ∧ 2 ≤ abc.dedup.length :=
  ⟨builtFrom_afterTree input (by decide +kernel) (by decide) (by decide) (by decide),
    wellFormed_of_params { ibufDepth := 8, obufDepth := 8, base := 0 } rfl (by decide), by decide⟩

theorem witness_built_single (input : List Byte) :
    BuiltFrom (afterAaa input) aaa ∧ (afterAaa input).cfg.WellFormed ∧ (∀ v ∈ aaa, v = 0x61) :=
  ⟨builtFrom_afterTree input (by decide +kernel) (by decide) (by decide) (by decide),
    wellFormed_of_params { ibufDepth := 8, obufDepth := 8, base := 0 } rfl (by decide), by decide⟩

/-- DecodeOfEncodeGivesInstr, IllegalWordRecordsOnly: well-formed terms with operands at the ends of their ranges. -/
theorem witness_well_formed :
    (Instr.readCode 0xFF).wellFormed = true ∧ (Instr.illegal 15 15 0xFF 0xFFFF).wellFormed = true ∧
    (Instr.illegal 5 0 0xFF 1).wellFormed = true ∧ (Instr.busError (.read 32 0x20)).wellFormed = true := by decide

/-- Bits 7:0 and bit 16 of an accessor's word are those of its opcode. -/
theorem accessor_word_low_bit (c w : Word) (s : Byte) (k : Nat) (hk : k < 8) (h : w = c ||| (s.zeroExtend 32 <<< 8)) :
    w.getLsbD k = c.getLsbD k := by
  rw [h, BitVec.getLsbD_or, BitVec.getLsbD_shiftLeft, decide_eq_true hk]
  simp

theorem accessor_word_high_bit (c w : Word) (s : Byte) (h : w = c ||| (s.zeroExtend 32 <<< 8)) :
    w.getLsbD 16 = c.getLsbD 16 := by
  rw [h, BitVec.getLsbD_or, BitVec.getLsbD_shiftLeft]
  simp

/-- LegalCommandWordsAreListed: words that are none of the legal ones, beside legal ones. -/
theorem witness_unlisted_words :
    (0x00000014#32 ≠ 0x00000001#32 ∧ 0x00000014#32 ≠ 0x00000002#32 ∧ 0x00000014#32 ≠ 0x00000003#32 ∧
      0x00010004#32 ≠ 0x00000001#32 ∧ 0x00010004#32 ≠ 0x00000002#32 ∧ 0x00010004#32 ≠ 0x00000003#32) ∧
    (∀ s : Byte, 0x00000014#32 ≠ 0x00000004#32 ||| (s.zeroExtend 32 <<< 8)) ∧
    (∀ s : Byte, 0x00000014#32 ≠ 0x00000005#32 ||| (s.zeroExtend 32 <<< 8)) ∧
    (∀ s : Byte, 0x00010004#32 ≠ 0x00000004#32 ||| (s.zeroExtend 32 <<< 8)) ∧
    (∀ s : Byte, 0x00010004#32 ≠ 0x00000005#32 ||| (s.zeroExtend 32 <<< 8)) :=
  ⟨by decide, fun s h => absurd (accessor_word_low_bit _ _ s 4 (by decide) h) (by decide),
    fun s h => absurd (accessor_word_low_bit _ _ s 4 (by decide) h) (by decide),
    fun s h => absurd (accessor_word_high_bit _ _ s h) (by decide), fun s h => absurd (accessor_word_high_bit _ _ s h) (by decide)⟩

/-- CommandWordTestsInOrder: a word for each branch. -/
theorem witness_command_word_branches :
    (0x00010000#32).toNat % 16 = 0 ∧ 6 ≤ (0x00000006#32).toNat % 16 ∧
    ¬ ((0x00000014#32).toNat % 16 = 0 ∨ 6 ≤ (0x00000014#32).toNat % 16) ∧ (0x00000014#32).toNat / 16 % 16 ≠ 0 ∧
    (0x00000101#32).toNat % 16 = 1 ∧ (0x00000101#32).toNat / 256 % 256 ≠ 0 ∧
    (0x0000FF05#32).toNat % 16 = 5 ∧ (0x0000FF05#32).toNat / 16 % 16 = 0 ∧ (0x0000FF05#32).toNat / 65536 = 0 := by
  decide

/-- NodeLayoutRoundTrips: a record with both children and one with neither. -/
theorem witness_node_children :
    (NodeRec.internal 5 (some 3) (some 510)).left = some 3 ∧ (NodeRec.internal 5 (some 3) (some 510)).right = some 510 ∧
    (NodeRec.leafOf 0x61 2).left = none := by decide

/-- StepRunsNextEvent, clause by clause: BUSY with nothing to come; BUSY with an access to come; a held access after the completion; an access to come
while idle; nothing. -/
theorem witness_step_clauses :
    ((running 1).busy = true ∧ (running 1).contested = false) ∧
    ({ running 1 with events := [.access (.read 32 0x04)] }.busy = true ∧
      { running 1 with events := [.access (.read 32 0x04)] }.held = none) ∧
    ({ State.reset with held := some (.read 32 0x08) }.busy = false) ∧
    ({ State.reset with events := [.access (.read 32 0x08)] }.held = none) ∧
    (State.reset.busy = false ∧ State.reset.held = none ∧ State.reset.events = []) := by decide +kernel

/-- AccessHeldUntilCompletion: an access to hold, and an access held with no reset to come. -/
theorem witness_hold :
    (running 1).busy = true ∧ (Instr.wrInData 0x61).wellFormed = true ∧
    encode (.wrInData 0x61) = .access (.write 32 0x10 0x61) ∧ Instr.wrInData 0x61 ≠ .rdStatus ∧
    (∀ b, Instr.wrInData 0x61 ≠ .busError b) ∧
    (∀ es, { running 1 with held := some (.read 32 0x08) }.events ≠ .reset :: es) :=
  ⟨rfl, rfl, rfl, nofun, nofun, nofun⟩

/-- StatusReadServedWhileBusy, last clause: a push while BUSY = 1 answers a next state. -/
theorem witness_busy_access :
    (running 1).busy = true ∧ encode (.wrInData 0x61) = .access (.write 32 0x10 0x61) ∧
    ∃ t, exec (.wrInData 0x61) (running 1) = .next t := ⟨rfl, rfl, _, rfl⟩

/-- WriteCmdAccepts, StatusReadServedWhileBusy, RegisterReadsReturnRegisters, WriteOnlyReadsReturnZero, ReadOnlyWritesIgnored: BUSY = 0. -/
theorem witness_idle : State.reset.busy = false := rfl

/-- PushAppendsOrOverflows: both branches at the boundary, a full IBUF and one with one place left. -/
theorem witness_push :
    (afterAb [1, 2, 3, 4, 5, 6, 7]).ibuf.length < (afterAb [1, 2, 3, 4, 5, 6, 7]).cfg.ibufDepth ∧
    ¬ (afterAb [1, 2, 3, 4, 5, 6, 7, 8]).ibuf.length < (afterAb [1, 2, 3, 4, 5, 6, 7, 8]).cfg.ibufDepth ∧
    (afterAb []).busy = false := by decide

/-- PopReturnsFirstUnit: an empty OBUF and one with a last unit. -/
theorem witness_pop :
    State.reset.obuf = [] ∧ { State.reset with obuf := [0xFF] }.obuf = 0xFF :: [] ∧ State.reset.busy = false :=
  ⟨rfl, rfl, rfl⟩

/-- BusErrorsChangeNothingAndStay, last clause: a step of a state with the fault recorded. -/
theorem witness_bus_fault_step :
    step { State.reset with busFault := true } = .next { State.reset with busFault := true } ∧
    { State.reset with busFault := true }.busFault = true := ⟨rfl, rfl⟩

/-- ResetEventSetsResetState: reset while idle, and while BUSY with a held write. -/
theorem witness_reset_event :
    ({ State.reset with events := [.reset] }.events = .reset :: [] ∧ State.reset.held = none) ∧
    ({ running 1 with events := [.reset], held := some (.write 32 0x10 1) }.busy = true) := by decide

/-- UnbuiltRaisesNotBuilt, EncodeErrorsInOrder and DecodeErrorsInOrder (their first clause); FailedBuildKeepsTables: an overflowed input, and an empty one. -/
theorem witness_unbuilt_and_failed_build :
    State.reset.built = false ∧ { withInput abc with inOvf := true }.inOvf = true ∧
    (State.reset.inOvf = false ∧ State.reset.ibuf = []) := by decide

/-- UnbuiltRaisesNotBuilt, last clause: BUILD and the accessors answer. -/
theorem witness_accessors_answer :
    ∃ t, exec .build State.reset = .next t ∧ ∃ u, exec (.readFreq 0) State.reset = .next u ∧
      ∃ v, exec (.readCode 0) State.reset = .next v := ⟨_, rfl, _, rfl, _, rfl⟩

/-- EncodeErrorsInOrder: IN_OVF; vector E-8's unknown symbol after two known ones; vector E-9's overflow at index 2 with OBUF_DEPTH 4. -/
theorem witness_encode_errors :
    ((afterAbc []).built = true ∧ { afterAbc abc with inOvf := true }.inOvf = true) ∧
    ((afterAbc [0x61, 0x62, 0x64]).ibuf = [0x61, 0x62] ++ 0x64 :: [] ∧
      (∀ v ∈ [0x61#8, 0x62#8], (entry (afterAbc []).code v).len ≠ 0) ∧
      ([0x61#8, 0x62#8].map fun v => (entry (afterAbc []).code v).len.toNat).sum ≤ (afterAbc []).cfg.obufDepth ∧
      (entry (afterAbc []).code 0x64).len = 0) ∧
    ((entry (afterAbc []).code 0x63).len ≠ 0 ∧
      ([0x61#8, 0x62#8].map fun v => (entry (afterAbc []).code v).len.toNat).sum ≤ 4 ∧
      4 < ([0x61#8, 0x62#8].map fun v => (entry (afterAbc []).code v).len.toNat).sum +
        (entry (afterAbc []).code 0x63).len.toNat) := by decide +kernel

/-- The walk of "0" then "1" after BUILD "abc": 'a' is decoded, and the walk stands in node 3. -/
theorem emits_a_then_one (input : List Byte) :
    Emits (afterAbc input) (afterAbc input).root [.zero, .one] [0x61] 3 := by
  have hroot : (afterAbc input).root = 4 :=
    show BitVec.ofNat 9 treeAbc.root = 4 by decide +kernel
  have hat : ∀ i : Nat, i < 5 → (afterAbc input).node[i]? = treeAbc.nodes[i]? := fun i hi =>
    node_afterTree input hi (by decide)
  have h4 : (afterAbc input).nodeAt 4 = some (NodeRec.internal 3 (some 2) (some 3)) :=
    (hat 4 (by decide)).trans (by decide +kernel)
  have h2 : (afterAbc input).nodeAt 2 = some (NodeRec.leafOf 0x61 1) :=
    (hat 2 (by decide)).trans (by decide +kernel)
  have h3 : (afterAbc input).nodeAt 3 = some (NodeRec.internal 2 (some 0) (some 1)) :=
    (hat 3 (by decide)).trans (by decide +kernel)
  refine Emits.leaf (hroot ▸ h4) rfl h2 rfl ?_
  rw [hroot]
  exact Emits.inner h4 rfl h3 rfl (Emits.nil 3)

/-- DecodeErrorsInOrder: IN_OVF; a bad marker after the walk of `emits_a_then_one` (vector D-5's kind); the unfinished code. -/
theorem witness_decode_errors :
    ((afterAbc []).built = true ∧ { afterAbc abc with inOvf := true }.inOvf = true) ∧
    Emits (afterAbc [0x30, 0x31, 0x78]) (afterAbc [0x30, 0x31, 0x78]).root [.zero, .one] [0x61] 3 ∧
    (afterAbc [0x30, 0x31, 0x78]).ibuf = [Marker.zero, .one].map Marker.unit ++ 0x78 :: [] ∧
    (0x78#8 ≠ 0x30#8 ∧ 0x78#8 ≠ 0x31#8) ∧
    (afterAbc [0x30, 0x31]).ibuf = [Marker.zero, .one].map Marker.unit ∧
    (3 : BitVec 9) ≠ (afterAbc [0x30, 0x31]).root :=
  ⟨⟨rfl, rfl⟩, emits_a_then_one _, rfl, by decide, rfl, by decide +kernel⟩

/-- DecodeErrorsInOrder, the absent child: MARK1 at the root of a single-symbol tree (vector D-17). -/
theorem witness_decode_no_child :
    Emits (afterAaa [0x31]) (afterAaa [0x31]).root [] [] (afterAaa [0x31]).root ∧
    (afterAaa [0x31]).ibuf = [].map Marker.unit ++ Marker.one.unit :: [] ∧
    ∃ n, (afterAaa [0x31]).nodeAt (afterAaa [0x31]).root = some n ∧ n.child .one = none := by
  have hroot : (afterAaa [0x31]).root = 1 :=
    show BitVec.ofNat 9 treeAaa.root = 1 by decide +kernel
  have h1 : (afterAaa [0x31]).nodeAt 1 = treeAaa.nodes[1]? :=
    node_afterTree [0x31] (by decide) (by decide)
  refine ⟨Emits.nil _, rfl, NodeRec.internal 3 (some 0) none, ?_, rfl⟩
  rw [hroot]
  exact h1.trans (by decide +kernel)

/-- EncodeConcatenatesCodes: an input that is known and fits. -/
theorem witness_encode_success :
    (afterAbc abc).built = true ∧ (afterAbc abc).inOvf = false ∧
    (∀ v ∈ (afterAbc abc).ibuf, (entry (afterAbc abc).code v).len ≠ 0) ∧
    ((afterAbc abc).ibuf.map fun v => (entry (afterAbc abc).code v).len.toNat).sum ≤
      (afterAbc abc).cfg.obufDepth := by decide +kernel

/-- DecodeEmitsLeafSymbols: the empty stream, and "0" after BUILD "aaa". -/
theorem witness_decode_success :
    Emits (afterAbc []) (afterAbc []).root [] [] (afterAbc []).root ∧
    (afterAbc []).built = true ∧ (afterAbc []).inOvf = false ∧
    (afterAbc []).ibuf = ([] : List Marker).map Marker.unit := ⟨Emits.nil _, rfl, rfl, rfl⟩

theorem witness_decode_success_one :
    Emits (afterAaa [0x30]) (afterAaa [0x30]).root [.zero] [0x61] (afterAaa [0x30]).root ∧
    (afterAaa [0x30]).ibuf = [Marker.zero].map Marker.unit := by
  have hroot : (afterAaa [0x30]).root = 1 :=
    show BitVec.ofNat 9 treeAaa.root = 1 by decide +kernel
  have hat : ∀ i : Nat, i < 2 → (afterAaa [0x30]).node[i]? = treeAaa.nodes[i]? := fun i hi =>
    node_afterTree [0x30] hi (by decide)
  have h1 : (afterAaa [0x30]).nodeAt 1 = some (NodeRec.internal 3 (some 0) none) :=
    (hat 1 (by decide)).trans (by decide +kernel)
  have h0 : (afterAaa [0x30]).nodeAt 0 = some (NodeRec.leafOf 0x61 3) :=
    (hat 0 (by decide)).trans (by decide +kernel)
  exact ⟨Emits.leaf (hroot ▸ h1) rfl h0 rfl (Emits.nil _), rfl⟩

/-- BuildCommitsTables, BuildCountsExactly, FailedBuildKeepsTables (its last clause): a non-empty input that fits. -/
theorem witness_build :
    (withInput abc).inOvf = false ∧ (withInput abc).ibuf ≠ [] ∧
    (withInput abc).ibuf.length ≤ (withInput abc).cfg.ibufDepth ∧ (withInput abc).cfg.WellFormed := by decide

/-- LeavesInDescendingOrder, MergesTakeLeastKeys, EveryNodeHasOneParent, CodesAreLeafPaths, CodesArePrefixFree, CodeIsComplete, CodeLengthsAreBounded,
WeightedLengthIsInternalSum: the tables of BUILD "abc"; n = 3, the internal nodes 3 and 4. -/
theorem witness_tree :
    BuiltFrom (afterAbc []) abc ∧ (afterAbc []).cfg.WellFormed ∧ 2 ≤ abc.dedup.length ∧
    (abc.dedup.length ≤ 4 ∧ 4 ≤ 2 * abc.dedup.length - 2) ∧ (0x61#8 ∈ abc ∧ 0x64#8 ∉ abc) ∧
    (0x62#8 ∈ abc ∧ 0x61#8 ≠ 0x62#8) :=
  ⟨(witness_built_abc []).1, (witness_built_abc []).2.1, (witness_built_abc []).2.2, by decide, by decide, by decide⟩

/-- EveryNodeHasOneParent: a node of the "aaa" tree that is not the root. -/
theorem witness_non_root :
    (0 : BitVec 9).toNat < (afterAaa []).nodeCount.toNat ∧ (0 : BitVec 9) ≠ (afterAaa []).root := by
  decide +kernel

/-- HuffmanTreeIsOptimal: a tree over the symbols of "abc". -/
theorem witness_other_tree :
    (SymTree.node (.leaf 0x61) (.node (.leaf 0x62) (.leaf 0x63))).symbols.Nodup ∧
    ∀ v, v ∈ (SymTree.node (.leaf 0x61) (.node (.leaf 0x62) (.leaf 0x63))).symbols ↔ v ∈ abc := by
  decide +kernel

/-- DecodeInvertsEncode: ENCODE "abc" succeeds and its five markers fit. -/
theorem witness_round_trip :
    ∃ t, exec .encode (afterAbc abc) = .next t ∧ t.err = .ok ∧
      t.obuf.length ≤ (afterAbc abc).cfg.ibufDepth ∧ BuiltFrom (afterAbc abc) abc ∧
      (afterAbc abc).cfg.WellFormed :=
  ⟨_, rfl, by decide +kernel, by decide +kernel, (witness_built_abc abc).1, (witness_built_abc abc).2.1⟩

/-- SingleSymbolDecode: a stream for each clause, j = 2 and j = 0; SingleSymbolEncode: two occurrences. -/
theorem witness_single_symbol :
    (BuiltFrom (afterAaa []) aaa ∧ (∀ v ∈ aaa, v = 0x61) ∧ (afterAaa []).built = true ∧
      (afterAaa []).inOvf = false) ∧
    (afterAaa [0x30, 0x30]).ibuf = List.replicate 2 0x30#8 ∧
    (afterAaa [0x30, 0x30, 0x31]).ibuf = List.replicate 2 0x30#8 ++ 0x31#8 :: [] ∧
    (afterAaa [0x32]).ibuf = List.replicate 0 0x30#8 ++ 0x32#8 :: [] ∧
    (0x32#8 ≠ 0x30#8 ∧ 0x32#8 ≠ 0x31#8) ∧
    ((afterAaa [0x61, 0x61]).ibuf = List.replicate 2 0x61#8 ∧ 2 ≤ (afterAaa [0x61, 0x61]).cfg.obufDepth) ∧
    (∃ t, exec .decode { afterAaa [] with built := false } = .next t) :=
  ⟨⟨(witness_built_single []).1, (witness_built_single []).2.2, rfl, rfl⟩, rfl, rfl, rfl, by decide, ⟨rfl, by decide⟩,
    ⟨_, rfl⟩⟩

/-- ValidMarkersFailOnlyIncomplete: a stream of valid markers. -/
theorem witness_valid_markers :
    BuiltFrom (afterAbc [0x31, 0x30]) abc ∧ (afterAbc [0x31, 0x30]).built = true ∧
    (afterAbc [0x31, 0x30]).inOvf = false ∧
    (afterAbc [0x31, 0x30]).ibuf = [Marker.one, .zero].map Marker.unit :=
  ⟨(witness_built_abc _).1, rfl, rfl, rfl⟩

/-- RebuildIsIsolated: two states with the same input and different tables, both of which build. -/
theorem witness_rebuild :
    (withInput abc).ibuf = (afterAaa abc).ibuf ∧ (withInput abc).ibuf ≠ [] ∧
    (withInput abc).inOvf = false ∧ (afterAaa abc).inOvf = false ∧
    (∃ t, exec .build (withInput abc) = .next t) ∧ (∃ t, exec .build (afterAaa abc) = .next t) :=
  ⟨rfl, by decide, rfl, rfl, ⟨_, rfl⟩, ⟨_, rfl⟩⟩

/-- OnlyBuildWritesTables: a BUILD that fails, and another instruction. BufferEffectsOfCommands: every command answers from reset. -/
theorem witness_commands_answer :
    (∃ t, exec .build State.reset = .next t ∧ t.err ≠ .ok) ∧ (∃ t, exec .encode State.reset = .next t ∧ t.err ≠ .ok) ∧
    (∃ t, exec .decode State.reset = .next t ∧ t.err ≠ .ok) ∧ (∃ t, exec (.readFreq 0xFF) State.reset = .next t) ∧
    (∃ t, exec (.readCode 0xFF) State.reset = .next t) ∧ (∃ t, exec (.illegal 0 0 0 0) State.reset = .next t) :=
  ⟨⟨_, rfl, by decide⟩, ⟨_, rfl, by decide⟩, ⟨_, rfl, by decide⟩, ⟨_, rfl⟩, ⟨_, rfl⟩, ⟨_, rfl⟩⟩

/-- FlagsHaveOnlyTheirWriters: a write of BUSY, of IN_OVF and of BUILT. RecordsFollowErrorTable: a command and its word. -/
theorem witness_flag_writes :
    (∃ t, exec (.wrCmd 1) State.reset = .next t ∧ State.reset.busy = false ∧ t.busy = true) ∧
    (∃ t, exec .encode (running 2) = .next t ∧ (running 2).busy = true ∧ t.busy = false) ∧
    (∃ t, exec .encode { State.reset with inOvf := true } = .next t ∧ t.inOvf ≠ true) ∧
    (∃ t, exec .build (withInput abc) = .next t ∧ t.built ≠ (withInput abc).built) ∧
    (∃ t, exec .rdResult State.reset = .next t ∧ encode .rdResult = .access (.read 32 0x08)) ∧
    (encode .encode = .command 2 ∧ Instr.encode.wellFormed = true) :=
  ⟨⟨_, rfl, rfl, rfl⟩, ⟨_, rfl, rfl, rfl⟩, ⟨_, rfl, by decide⟩, ⟨_, rfl, by decide +kernel⟩, ⟨_, rfl, rfl⟩, rfl, rfl⟩

theorem witness_in_ovf_set :
    ∃ t, exec (.wrInData 1) (afterAb [1, 2, 3, 4, 5, 6, 7, 8]) = .next t ∧
      t.inOvf ≠ (afterAb [1, 2, 3, 4, 5, 6, 7, 8]).inOvf := ⟨_, rfl, by decide⟩

/-- StepKeepsInvariant, InvariantStepsNeverStop, EveryRunEnds: a built state with an access to come, that meets the invariant and steps. -/
theorem witness_invariant :
    Inv { afterAbc abc with events := [.access (.read 32 0x14)] } ∧
    ∃ t, step { afterAbc abc with events := [.access (.read 32 0x14)] } = .next t := by
  refine ⟨⟨by decide, ⟨fun _ => ⟨abc, ?_⟩, nofun⟩, nofun⟩, ⟨_, rfl⟩⟩
  have h := (witness_built_abc abc).1
  exact ⟨h.nonempty, h.fits, h.freq, h.nodes, h.nodeCount, h.root, h.code⟩

/-- EachAccessAnsweredOnce, ParametersNeverChange: a step that answers an access. -/
theorem witness_step_answers :
    ∃ t, step { State.reset with events := [.access (.read 32 0x04), .reset] } = .next t := ⟨_, rfl⟩

/-- InstancesAreIndependent: two instances, an address in the second's window. -/
theorem witness_two_instances :
    instanceOf [State.reset, State.resetOf { ibufDepth := 1, obufDepth := 1, base := 256 }] 264 = some 1 ∧ 0 ≠ 1 := by
  decide +kernel

end Sys2Proof.Tests
end

/-!
The parameters of the instance (00_scope.md R7): what a step can do, what the scheduler and each instruction leave unchanged, and that no step
writes State.cfg.
-/

namespace Sys2Proof.Machine

open Sys2Proof

/-! ### What a step can do -/

/-- Nothing happens, or the instruction of the command or access fetched runs, or the reset event is taken: every way to a next state. -/
theorem step_cases {s t : State} (h : step s = .next t) :
    (s.fetch = .idle ∧ t = s) ∨
    (∃ s', s.fetch = .command s' ∧ exec (decodeCommand s'.pend) s' = .next t) ∨
    (∃ a s', s.fetch = .access a s' ∧ exec (decodeAccess a) s' = .next t) ∨
    (∃ s', s.fetch = .reset s' ∧ t = s'.takeReset) := by
  unfold step at h
  cases hf : s.fetch <;> simp only [hf] at h
  case idle => cases h; exact .inl ⟨rfl, rfl⟩
  case command s' => exact .inr (.inl ⟨s', rfl, h⟩)
  case access a s' => exact .inr (.inr (.inl ⟨a, s', rfl, h⟩))
  case reset s' => cases h; exact .inr (.inr (.inr ⟨s', rfl, rfl⟩))

/-! ### What the scheduler leaves unchanged -/

/-- The state that a fetched event starts from, if there is an event. -/
def Fetched.start? : Fetched → Option State
  | .idle => none
  | .command s | .access _ s | .reset s => some s

/-- Taking the next outside event writes the list of events alone. -/
theorem fromOutside_start {s s' : State} (h : s.fromOutside.start? = some s') :
    ∃ es, s' = { s with events := es } := by
  obtain ⟨-, hf⟩ | ⟨a, es, -, hf⟩ | ⟨es, -, hf⟩ := fromOutside_cases s <;> rw [hf] at h <;> cases h
  · exact ⟨es, rfl⟩
  · exact ⟨es, rfl⟩

/-- Fetching writes at most the held access, the list of events and the draw counter. -/
theorem fetch_start {s s' : State} (h : s.fetch.start? = some s') :
    ∃ hd es d, s' = { s with held := hd, events := es, draws := d } := by
  obtain ⟨-, -, hf⟩ | ⟨-, -, hf⟩ | ⟨-, -, hf⟩ | ⟨-, a, -, hf⟩ | ⟨-, -, hf⟩ := fetch_cases s <;> rw [hf] at h
  · cases h; exact ⟨s.held, s.events, s.draws, rfl⟩
  · cases h; exact ⟨s.held, s.events, s.draws + 1, rfl⟩
  · obtain ⟨es, rfl⟩ := fromOutside_start h
    exact ⟨s.held, es, s.draws + 1, rfl⟩
  · cases h; exact ⟨none, s.events, s.draws, rfl⟩
  · obtain ⟨es, rfl⟩ := fromOutside_start h
    exact ⟨s.held, es, s.draws, rfl⟩

theorem fetch_start_cfg {s s' : State} (h : s.fetch.start? = some s') : s'.cfg = s.cfg := by
  obtain ⟨hd, es, d, rfl⟩ := fetch_start h
  rfl

/-! ### What the instructions do to the parameters -/

/-- An access keeps the parameters, held or performed, when its effect keeps them. -/
theorem hostAccess_cfg {s t : State} {a : Access} {done : State} (h : hostAccess s a done = .next t)
    (hd : done.cfg = s.cfg) : t.cfg = s.cfg := by
  obtain ⟨-, rfl⟩ | ⟨-, rfl⟩ := hostAccess_next h
  · exact State.hold_cfg s a
  · exact hd

@[simp] theorem State.dataComplete_cfg (s : State) (r : OpResult (List Byte)) : (s.dataComplete r).cfg = s.cfg := by
  cases r <;> rfl

/-- Everything a BUILD can do: the two errors in their order, or the commit. -/
theorem execBuild_cases {s t : State} (h : execBuild s = .next t) :
    (s.inOvf = true ∧ t = s.dataError .capacityExceeded .inOverflow s.cfg.ibufDepth 0) ∨
    (s.inOvf = false ∧ s.ibuf = [] ∧ t = s.dataError .invalidInput .none 0 0) ∨
    (s.inOvf = false ∧ s.ibuf ≠ [] ∧ t = s.buildCommit s.ibuf) := by
  unfold execBuild at h
  split_ifs at h with ho hi <;> cases h
  · exact .inl ⟨ho, rfl⟩
  · exact .inr (.inl ⟨by simpa using ho, hi, rfl⟩)
  · exact .inr (.inr ⟨by simpa using ho, hi, rfl⟩)

/-- A DECODE that answers a next state completes with the result of its operation rule. -/
theorem execDecode_next {s t : State} (h : execDecode s = .next t) :
    ∃ r, decodeRule s = some r ∧ t = s.dataComplete r := by
  unfold execDecode at h
  cases hr : decodeRule s <;> rw [hr] at h <;> cases h
  exact ⟨_, rfl, rfl⟩

theorem execBuild_cfg {s t : State} (h : execBuild s = .next t) : t.cfg = s.cfg := by
  obtain ⟨-, rfl⟩ | ⟨-, -, rfl⟩ | ⟨-, -, rfl⟩ := execBuild_cases h
  · exact State.dataError_cfg ..
  · exact State.dataError_cfg ..
  · simp [State.buildCommit]

theorem execDecode_cfg {s t : State} (h : execDecode s = .next t) : t.cfg = s.cfg := by
  obtain ⟨r, -, rfl⟩ := execDecode_next h
  exact State.dataComplete_cfg s r

/-- No instruction writes the parameters. -/
theorem exec_cfg {i : Instr} {s t : State} (h : exec i s = .next t) : t.cfg = s.cfg := by
  cases i with
  | build => exact execBuild_cfg h
  | encode => cases h; exact State.dataComplete_cfg ..
  | decode => exact execDecode_cfg h
  | readFreq _ => cases h; exact State.succeed_cfg ..
  | readCode _ => cases h; simp
  | illegal _ _ _ _ => cases h; exact State.illegalComplete_cfg ..
  | rdStatus => cases h; exact State.answerRead_cfg ..
  | busError _ => cases h; exact State.reportBusError_cfg s
  | wrCmd _ | wrInData _ | rdResult | rdErrIndex | rdInCount | rdOutData | rdOutCount | rdWriteOnly _
  | wrStatus _ | wrResult _ | wrErrIndex _ | wrInCount _ | wrOutData _ | wrOutCount _ =>
    exact hostAccess_cfg h (by simp)

/-! ### No step writes the parameters -/

theorem step_cfg {s t : State} (h : step s = .next t) : t.cfg = s.cfg := by
  obtain ⟨-, rfl⟩ | ⟨s', hf, hx⟩ | ⟨a, s', hf, hx⟩ | ⟨s', hf, rfl⟩ := step_cases h
  · rfl
  · exact (exec_cfg hx).trans (fetch_start_cfg (by rw [hf]; rfl))
  · exact (exec_cfg hx).trans (fetch_start_cfg (by rw [hf]; rfl))
  · exact (State.takeReset_cfg s').trans (fetch_start_cfg (by rw [hf]; rfl))

/-- Settles O58: the event fetched starts from a state with the same parameters, and neither an instruction nor a reset writes them. -/
theorem parametersNeverChange : Obligations.ParametersNeverChange :=
  fun _ _ => step_cfg

end Sys2Proof.Machine

/-!
The tree and the codes of a BUILD: its size, the order of its indices, and how long a code can be (41_build.md R134 to R142; 00_scope.md R8).
-/

namespace Sys2Proof.Machine

open Sys2Proof

/-! ### The Frequency Counter -/

@[simp] theorem entry_bump_ne (f : Vector Word 256) {v w : Byte} (h : w ≠ v) : entry (bump f v) w = entry f w := by
  simp [bump, h]

/-- A scan that counts only some symbols leaves the entries of the others. -/
theorem entry_foldl_bump_of_notMem {u : List Byte} {v : Byte} (h : v ∉ u) (f : Vector Word 256) :
    entry (u.foldl bump f) v = entry f v := by
  induction u generalizing f with
  | nil => rfl
  | cons x xs ih =>
    obtain ⟨hx, hxs⟩ : v ≠ x ∧ v ∉ xs := by simpa using h
    rw [List.foldl_cons, ih hxs, entry_bump_ne f hx]

theorem entry_count_of_notMem {u : List Byte} {v : Byte} (h : v ∉ u) : entry (count u) v = 0 := by
  rw [count, entry_foldl_bump_of_notMem h, entry_replicate]

/-! ### The distinct symbols -/

theorem nodup_symbolsDown : symbolsDown.Nodup := by decide +kernel

theorem nodup_distinct (f : Vector Word 256) : (distinct f).Nodup := nodup_symbolsDown.filter _

theorem length_distinct_le (f : Vector Word 256) : (distinct f).length ≤ 256 :=
  (List.length_filter_le _ _).trans (by simp [symbolsDown])

theorem mem_of_mem_distinct_count {u : List Byte} {v : Byte} (h : v ∈ distinct (count u)) : v ∈ u := by
  by_contra hv
  simp [distinct, entry_count_of_notMem hv] at h

/-- An input has at most as many distinct symbols as units. -/
theorem length_distinct_count_le (u : List Byte) : (distinct (count u)).length ≤ u.length :=
  (List.subperm_of_subset (nodup_distinct _) fun _ => mem_of_mem_distinct_count).length_le

/-! ### The order of the indices -/

/-- The indices of a list of nodes whose first `n` are leaves are ordered: a child stands before its parent (41_build.md R139 (f)). -/
structure IndexOrdered (n : Nat) (nodes : List NodeRec) : Prop where
  child_lt : ∀ {i : Nat} {r : NodeRec} {m : Marker} {c : BitVec 9}, nodes[i]? = some r → r.child m = some c → c.toNat < i
  leaf_of_lt : ∀ {i : Nat} {r : NodeRec}, nodes[i]? = some r → i < n → r.leaf = true

/-- A node whose children are all there can be appended. -/
theorem IndexOrdered.append {n : Nat} {nodes : List NodeRec} {r : NodeRec} (h : IndexOrdered n nodes)
    (hn : n ≤ nodes.length) (hr : ∀ m c, r.child m = some c → c.toNat < nodes.length) :
    IndexOrdered n (nodes ++ [r]) := by
  have hcases : ∀ {i x}, (nodes ++ [r])[i]? = some x → nodes[i]? = some x ∨ (i = nodes.length ∧ x = r) := by
    intro i x hi
    rw [List.getElem?_append] at hi
    split at hi
    · exact .inl hi
    · obtain ⟨h0, rfl⟩ : i - nodes.length = 0 ∧ r = x := by simpa [List.getElem?_singleton] using hi
      exact .inr ⟨by omega, rfl⟩
  refine ⟨fun hi hc => ?_, fun hi hlt => ?_⟩
  · obtain hi | ⟨rfl, rfl⟩ := hcases hi
    · exact h.child_lt hi hc
    · exact hr _ _ hc
  · obtain hi | ⟨rfl, -⟩ := hcases hi
    · exact h.leaf_of_lt hi hlt
    · omega

@[simp] theorem NodeRec.child_leafOf (v : Byte) (f : Word) (m : Marker) : (NodeRec.leafOf v f).child m = none := by
  cases m <;> rfl

@[simp] theorem length_leaves (f : Vector Word 256) : (leaves f).length = (distinct f).length := by simp [leaves]

theorem indexOrdered_leaves (n : Nat) (f : Vector Word 256) : IndexOrdered n (leaves f) := by
  have hleaf : ∀ {i : Nat} {r : NodeRec}, (leaves f)[i]? = some r → ∃ v x, r = NodeRec.leafOf v x := by
    intro i r hi
    obtain ⟨v, -, rfl⟩ := List.mem_map.mp (List.mem_of_getElem? hi)
    exact ⟨v, _, rfl⟩
  constructor
  · intro i r m c hi hc
    obtain ⟨v, x, rfl⟩ := hleaf hi
    simp at hc
  · intro i r hi _
    obtain ⟨v, x, rfl⟩ := hleaf hi
    rfl

/-! ### The merge loop -/

/-- What every merge step keeps: each takes two indices from Q and gives it one, that of the node it appends. -/
structure MergeInv (n : Nat) (nodes : List NodeRec) (q : List Nat) : Prop where
  ordered : IndexOrdered n nodes
  queued_lt : ∀ a ∈ q, a < nodes.length
  total : nodes.length + q.length = 2 * n
  leaves_le : n ≤ nodes.length
  nodes_le : nodes.length ≤ 2 * n - 1

theorem mergeStep_keeps_mergeInv {n : Nat} {nodes nodes' : List NodeRec} {q q' : List Nat} (h : MergeInv n nodes q)
    (hs : mergeStep nodes q = some (nodes', q')) : MergeInv n nodes' q' := by
  obtain ⟨hord, hlt, htot, hle, -⟩ := h
  obtain ⟨a, b, ha, hb, rfl, rfl⟩ := mergeStep_some hs
  have hq : q.length = ((q.erase a).erase b).length + 2 := by
    have := List.length_erase_add_one ha
    have := List.length_erase_add_one hb
    omega
  have hchild : ∀ x ∈ q, (BitVec.ofNat 9 x).toNat < nodes.length := fun x hx =>
    (Nat.mod_le x _).trans_lt (hlt x hx)
  refine ⟨hord.append hle fun m c hc => ?_, fun x hx => ?_, ?_, ?_, ?_⟩
  · cases m <;> cases hc
    · exact hchild a ha
    · exact hchild b (List.mem_of_mem_erase hb)
  · rw [List.length_append, List.length_singleton]
    obtain hx | hx := List.mem_append.mp hx
    · exact (hlt x (List.mem_of_mem_erase (List.mem_of_mem_erase hx))).trans (Nat.lt_succ_self _)
    · rw [List.mem_singleton.mp hx]; exact Nat.lt_succ_self _
  all_goals simp only [List.length_append, List.length_singleton]; omega

theorem mergeLoop_keeps_mergeInv {n : Nat} (fuel : Nat) {nodes : List NodeRec} {q : List Nat} (h : MergeInv n nodes q) :
    MergeInv n (mergeLoop fuel nodes q).1 (mergeLoop fuel nodes q).2 := by
  induction fuel generalizing nodes q with
  | zero => exact h
  | succ fuel ih =>
    rw [mergeLoop]
    split
    · exact h
    · exact ih (mergeStep_keeps_mergeInv h ‹_›)

/-! ### The tree -/

/-- The size of a tree of `n` leaves, and the order of its indices (41_build.md R137 to R139). -/
structure TreeShape (n : Nat) (t : BuiltTree) : Prop where
  ordered : IndexOrdered n t.nodes
  nodes_le : t.nodes.length ≤ max 2 (2 * n - 1)
  root_le : t.root + 1 - n ≤ max 1 (n - 1)

theorem treeShape_mergedTree (f : Vector Word 256) : TreeShape (distinct f).length (mergedTree (leaves f)) := by
  have h0 : MergeInv (distinct f).length (leaves f) (List.range (leaves f).length) :=
    ⟨indexOrdered_leaves _ f, fun a ha => List.mem_range.mp ha, by simp; omega, by simp, by simp; omega⟩
  obtain ⟨hord, hlt, -, -, hle⟩ := mergeLoop_keeps_mergeInv (leaves f).length h0
  refine ⟨hord, le_max_of_le_right hle, ?_⟩
  have hroot : (mergedTree (leaves f)).root ≤ 2 * (distinct f).length - 2 := by
    simp only [mergedTree]
    cases hq : (mergeLoop (leaves f).length (leaves f) (List.range (leaves f).length)).2 with
    | nil => simp
    | cons a q =>
      have := hlt a (hq ▸ List.mem_cons_self)
      simp only [List.headD_cons]
      omega
  omega

theorem treeShape_singleTree {f : Vector Word 256} {l : NodeRec} (h : leaves f = [l]) :
    TreeShape 1 (singleTree l) := by
  refine ⟨?_, by simp [singleTree], by simp [singleTree]⟩
  have hl : IndexOrdered 1 [l] := h ▸ indexOrdered_leaves 1 f
  refine hl.append (r := NodeRec.internal l.freq (some 0) none) le_rfl fun m c hc => ?_
  cases m <;> cases hc
  exact Nat.zero_lt_one

theorem treeShape_tree (f : Vector Word 256) : TreeShape (distinct f).length (tree f) := by
  unfold tree
  split
  next l hl =>
    have hn : (distinct f).length = 1 := by rw [← length_leaves, hl]; rfl
    exact hn ▸ treeShape_singleTree hl
  next => exact treeShape_mergedTree f

/-- The tree of any input fits the node arena (00_scope.md R8). -/
theorem length_tree_nodes_le (f : Vector Word 256) : (tree f).nodes.length ≤ Config.nodeMax := by
  have := (treeShape_tree f).nodes_le
  have := length_distinct_le f
  simp only [Config.nodeMax]
  omega

/-! ### The Code Table Generator -/

/-- Every code of the table has at most `b` markers. -/
def CodesWithin (b : Nat) (c : Vector CodeRec 256) : Prop := ∀ v, (entry c v).len.toNat ≤ b

theorem codesWithin_empty (b : Nat) : CodesWithin b (Vector.replicate 256 CodeRec.empty) := fun v => by
  simp [CodeRec.empty]

theorem CodesWithin.setEntry {b : Nat} {c : Vector CodeRec 256} (h : CodesWithin b c) (v : Byte) {p : List Marker}
    (hp : p.length ≤ b) : CodesWithin b (setEntry c v (CodeRec.ofMarkers p)) := by
  intro w
  by_cases hw : w = v
  · subst hw
    rw [entry_setEntry_same]
    exact (Nat.mod_le _ _).trans hp
  · rw [entry_setEntry_ne c _ hw]
    exact h w

theorem length_leafCode_le {b : Nat} {p : List Marker} (hb : 1 ≤ b) (hp : p.length ≤ b) : (leafCode p).length ≤ b := by
  unfold leafCode
  split
  · exact hb
  · exact hp

/-- The walk below the child that a marker selects, where there is one. -/
def genChild (nodes : List NodeRec) (fuel : Nat) (r : NodeRec) (p : List Marker) (m : Marker) (c : Vector CodeRec 256) :
    Vector CodeRec 256 :=
  match r.child m with
  | none => c
  | some k => gen nodes fuel k.toNat (p ++ [m]) c

theorem gen_absent {nodes : List NodeRec} {fuel i : Nat} {p : List Marker} {c : Vector CodeRec 256}
    (hi : nodes[i]? = none) : gen nodes (fuel + 1) i p c = c := by
  rw [gen, hi]

theorem gen_leaf {nodes : List NodeRec} {fuel i : Nat} {p : List Marker} {c : Vector CodeRec 256} {r : NodeRec}
    (hi : nodes[i]? = some r) (hr : r.leaf = true) :
    gen nodes (fuel + 1) i p c = setEntry c r.sym (CodeRec.ofMarkers (leafCode p)) := by
  simp [gen, hi, hr]

theorem gen_internal {nodes : List NodeRec} {fuel i : Nat} {p : List Marker} {c : Vector CodeRec 256} {r : NodeRec}
    (hi : nodes[i]? = some r) (hr : r.leaf = false) :
    gen nodes (fuel + 1) i p c = genChild nodes fuel r p .one (genChild nodes fuel r p .zero c) := by
  cases hl : r.left <;> cases hk : r.right <;> simp [gen, genChild, NodeRec.child, hi, hr, hl, hk]

/-- The walk from node `i` meets internal nodes only at the indices `n` to `i`, each less than the one before: so many steps it can take. -/
theorem gen_codesWithin {n b : Nat} {nodes : List NodeRec} (ho : IndexOrdered n nodes) (hb : 1 ≤ b) (fuel : Nat)
    {i : Nat} {p : List Marker} {c : Vector CodeRec 256} (hp : p.length + (i + 1 - n) ≤ b) (hc : CodesWithin b c) :
    CodesWithin b (gen nodes fuel i p c) := by
  induction fuel generalizing i p c with
  | zero => exact hc
  | succ fuel ih =>
    cases hi : nodes[i]? with
    | none => rwa [gen_absent hi]
    | some r =>
      cases hr : r.leaf with
      | true =>
        rw [gen_leaf hi hr]
        exact hc.setEntry r.sym (length_leafCode_le hb (by omega))
      | false =>
        have hni : n ≤ i := by
          by_contra hlt
          simp [ho.leaf_of_lt hi (by omega)] at hr
        have hchild : ∀ {m c}, CodesWithin b c → CodesWithin b (genChild nodes fuel r p m c) := by
          intro m c hc
          unfold genChild
          split
          next => exact hc
          next k hk =>
            have := ho.child_lt hi hk
            exact ih (by simp; omega) hc
        rw [gen_internal hi hr]
        exact hchild (hchild hc)

/-- 41_build.md R139 (e): a code has at most max(1, n − 1) markers. -/
theorem codes_tree_codesWithin (f : Vector Word 256) :
    CodesWithin (max 1 ((distinct f).length - 1)) (codes (tree f)) := by
  obtain ⟨hord, -, hroot⟩ := treeShape_tree f
  exact gen_codesWithin hord (le_max_left ..) _ (by simpa using hroot) (codesWithin_empty _)

end Sys2Proof.Machine

/-!
What each instruction can do: every effect by name, and what the effects leave unchanged. The proofs about all instructions split on the effect
and not on the 22 instructions.
-/

namespace Sys2Proof.Machine

open Sys2Proof

/-! ### The access of an instruction -/

/-- The access that encodes an instruction, other than a bus error, decodes to it. -/
theorem decodeAccess_of_encode {i : Instr} {a : Access} (h : encode i = .access a) (hi : ∀ b, i ≠ .busError b) :
    decodeAccess a = i := by
  cases i with
  | build | encode | decode | readFreq _ | readCode _ | illegal _ _ _ _ => cases h
  | busError b => exact absurd rfl (hi b)
  | rdWriteOnly reg => cases reg <;> cases h <;> rfl
  | _ =>
    cases h
    simp [decodeAccess, decodeRead, decodeWrite, regRead, regWrite, Access.isBusError, Access.width, Access.off]

/-- Such an access is legal. -/
theorem isBusError_of_encode {i : Instr} {a : Access} (h : encode i = .access a) (hi : ∀ b, i ≠ .busError b) :
    a.isBusError = false := by
  by_contra hb
  exact hi a ((decodeAccess_of_encode h hi).symm.trans (by simp [decodeAccess, hb]))

/-! ### The effects -/

/-- BUILD, ENCODE or DECODE: the commands that consume IBUF (40_command_lifecycle.md R118). -/
abbrev IsDataCommand (i : Instr) : Prop := i = .build ∨ i = .encode ∨ i = .decode

/-- Everything an instruction can do to a state: an access is held or performed, a command completes. -/
inductive Effect (s : State) : Instr → State → Prop where
  | held {i : Instr} {a : Access} (busy : s.busy = true) (enc : encode i = .access a) (legal : ∀ b, i ≠ .busError b)
      (notStatus : i ≠ .rdStatus) : Effect s i (s.hold a)
  | answered {i : Instr} {a : Access} (enc : encode i = .access a) (v : Word) : Effect s i (s.answerRead v)
  | ignored {i : Instr} {a : Access} (enc : encode i = .access a) : Effect s i s.ignoreWrite
  | busError (a : Access) : Effect s (.busError a) s.reportBusError
  | accepted (w : Word) : Effect s (.wrCmd w) ((s.accept w).respond .done)
  | pushed (w : Word) : Effect s (.wrInData w) ((s.push (inDataUnit w)).respond .done)
  | popped (v : Word) : Effect s .rdOutData (s.pop.answerRead v)
  | built (hovf : s.inOvf = false) (hne : s.ibuf ≠ []) : Effect s .build (s.buildCommit s.ibuf)
  | encoded {out : List Byte} (h : encodeRule s = .success out) :
      Effect s .encode (s.dataSuccess out (zext32 out.length))
  | decoded {out : List Byte} (h : decodeRule s = some (.success out)) :
      Effect s .decode (s.dataSuccess out (zext32 out.length))
  | failed {i : Instr} (hi : IsDataCommand i) (e : Err) (d : Detail) (k r : Nat) : Effect s i (s.dataError e d k r)
  | freqRead (v : Byte) : Effect s (.readFreq v) (s.succeed (entry s.freq v))
  | codeRead (v : Byte) : Effect s (.readCode v)
      ((s.setOutput (entry s.code v).units).succeed (zext32 (entry s.code v).len.toNat))
  | illegal (op rsv0 : BitVec 4) (v : Byte) (rsv1 : BitVec 16) (d : Detail) :
      Effect s (.illegal op rsv0 v rsv1) (s.illegalComplete d)

/-- A legal access other than a STATUS read is held, or its effect is what it does when performed. -/
theorem hostAccess_effect {s t done : State} {i : Instr} {a : Access} (h : hostAccess s a done = .next t)
    (enc : encode i = .access a) (legal : ∀ b, i ≠ .busError b) (notStatus : i ≠ .rdStatus)
    (hdone : Effect s i done) : Effect s i t := by
  obtain ⟨hb, rfl⟩ | ⟨-, rfl⟩ := hostAccess_next h
  · exact .held hb enc legal notStatus
  · exact hdone

theorem execBuild_effect {s t : State} (h : execBuild s = .next t) : Effect s .build t := by
  obtain ⟨-, rfl⟩ | ⟨-, -, rfl⟩ | ⟨ho, hne, rfl⟩ := execBuild_cases h
  · exact .failed (.inl rfl) ..
  · exact .failed (.inl rfl) ..
  · exact .built ho hne

theorem execEncode_effect {s t : State} (h : execEncode s = .next t) : Effect s .encode t := by
  cases h
  cases hr : encodeRule s with
  | success out => exact .encoded hr
  | raised e d k r => exact .failed (.inr (.inl rfl)) e d k r

theorem execDecode_effect {s t : State} (h : execDecode s = .next t) : Effect s .decode t := by
  obtain ⟨r, hr, rfl⟩ := execDecode_next h
  cases r with
  | success out => exact .decoded hr
  | raised e d k r => exact .failed (.inr (.inr rfl)) e d k r

/-- An instruction that answers a next state has one of the effects. -/
theorem exec_effect {i : Instr} {s t : State} (h : exec i s = .next t) : Effect s i t := by
  cases i with
  | build => exact execBuild_effect h
  | encode => exact execEncode_effect h
  | decode => exact execDecode_effect h
  | readFreq v => cases h; exact .freqRead v
  | readCode v => cases h; exact .codeRead v
  | illegal op rsv0 v rsv1 => cases h; exact .illegal op rsv0 v rsv1 _
  | busError a => cases h; exact .busError a
  | rdStatus => cases h; exact .answered rfl _
  | wrCmd w => exact hostAccess_effect h rfl nofun nofun (.accepted w)
  | wrInData w => exact hostAccess_effect h rfl nofun nofun (.pushed w)
  | rdOutData => exact hostAccess_effect h rfl nofun nofun (.popped _)
  | rdWriteOnly reg => cases reg <;> exact hostAccess_effect h rfl nofun nofun (.answered rfl 0)
  | rdResult | rdErrIndex | rdInCount | rdOutCount => exact hostAccess_effect h rfl nofun nofun (.answered rfl _)
  | wrStatus _ | wrResult _ | wrErrIndex _ | wrInCount _ | wrOutData _ | wrOutCount _ =>
    exact hostAccess_effect h rfl nofun nofun (.ignored rfl)

end Sys2Proof.Machine

/-!
The invariant of the machine: the tables, the buffers and the held access, each kept by every effect (10_state.md R33, R35, R43, R44).
-/

namespace Sys2Proof.Machine

open Sys2Proof

/-! ### The tables -/

/-- Two states with the same parameters, the same BUILT and the same engine tables. -/
structure SameTables (s t : State) : Prop where
  cfg : t.cfg = s.cfg
  built : t.built = s.built
  freq : t.freq = s.freq
  node : t.node = s.node
  nodeCount : t.nodeCount = s.nodeCount
  root : t.root = s.root
  code : t.code = s.code

theorem SameTables.builtFrom {s t : State} {u : List Byte} (h : SameTables s t) (hb : BuiltFrom s u) : BuiltFrom t u where
  nonempty := hb.nonempty
  fits := h.cfg ▸ hb.fits
  freq := h.freq.trans hb.freq
  nodes := h.node ▸ hb.nodes
  nodeCount := h.nodeCount.trans hb.nodeCount
  root := h.root.trans hb.root
  code := h.code.trans hb.code

theorem SameTables.tablesAgree {s t : State} (h : SameTables s t) (ht : TablesAgree s) : TablesAgree t where
  built hb := (ht.built (h.built ▸ hb)).imp fun _ => h.builtFrom
  unbuilt hb := by
    obtain ⟨hf, hc, hn⟩ := ht.unbuilt (h.built ▸ hb)
    exact ⟨h.freq.trans hf, h.code.trans hc, h.nodeCount.trans hn⟩

/-- Every effect but the success of a BUILD leaves the tables (20_memory.md R78). -/
theorem Effect.sameTables {s t : State} {i : Instr} (h : Effect s i t) :
    SameTables s t ∨ (i = .build ∧ s.ibuf ≠ [] ∧ t = s.buildCommit s.ibuf) := by
  cases h with
  | built _ hne => exact .inr ⟨rfl, hne, rfl⟩
  | _ => left; constructor <;> simp

theorem getElem?_committedNode {nodes : List NodeRec} {i : Nat} (draw : Nat) (hi : i < nodes.length)
    (hmax : nodes.length ≤ Config.nodeMax) : (committedNode nodes draw)[i]? = nodes[i]? := by
  have h511 : i < 511 := hi.trans_le hmax
  simp [committedNode, h511, hi]

/-- A BUILD that succeeds leaves the tables of its input (41_build.md R144). -/
theorem builtFrom_buildCommit {s : State} {u : List Byte} (hne : u ≠ []) (hfits : u.length ≤ s.cfg.ibufDepth) :
    BuiltFrom (s.buildCommit u) u where
  nonempty := hne
  fits := by simpa [State.buildCommit] using hfits
  freq := rfl
  nodes _ hi := getElem?_committedNode s.draws hi (length_tree_nodes_le _)
  nodeCount := rfl
  root := rfl
  code := rfl

theorem Effect.keeps_tablesAgree {s t : State} {i : Instr} (h : Effect s i t) (ht : TablesAgree s)
    (hfits : s.ibuf.length ≤ s.cfg.ibufDepth) : TablesAgree t := by
  obtain hsame | ⟨-, hne, rfl⟩ := h.sameTables
  · exact hsame.tablesAgree ht
  · exact ⟨fun _ => ⟨s.ibuf, builtFrom_buildCommit hne hfits⟩, nofun⟩

/-! ### The buffers -/

/-- A code of the tables is no longer than the input they were built from, so IBUF could hold it. -/
theorem TablesAgree.code_len_le {s : State} (h : TablesAgree s) (v : Byte) :
    (entry s.code v).len.toNat ≤ s.cfg.ibufDepth := by
  cases hb : s.built with
  | false =>
    rw [(h.unbuilt hb).2.1]
    exact codesWithin_empty _ v
  | true =>
    obtain ⟨u, hu⟩ := h.built hb
    have hlen := codes_tree_codesWithin (count u) v
    have hdist := length_distinct_count_le u
    have hpos := List.length_pos_iff.mpr hu.nonempty
    have hfits := hu.fits
    rw [hu.code]
    omega

theorem encodeScan_success_length {c : Vector CodeRec 256} {depth i : Nat} {out us v : List Byte}
    (h : encodeScan c depth i out us = .success v) (hout : out.length ≤ depth) : v.length ≤ depth := by
  induction us generalizing i out with
  | nil => cases h; exact hout
  | cons u us ih =>
    rw [encodeScan] at h
    split_ifs at h with h0 hover
    exact ih h (by simp; omega)

theorem encodeRule_success_length {s : State} {v : List Byte} (h : encodeRule s = .success v) :
    v.length ≤ s.cfg.obufDepth := by
  unfold encodeRule at h
  split_ifs at h
  exact encodeScan_success_length h (Nat.zero_le _)

/-- A walk emits at most one symbol per unit. -/
theorem decodeWalk_success_length {s : State} {i : Nat} {cur : BitVec 9} {out us v : List Byte}
    (h : decodeWalk s i cur out us = some (.success v)) : v.length ≤ out.length + us.length := by
  induction us generalizing i cur out with
  | nil =>
    rw [decodeWalk] at h
    split at h <;> cases h
    exact Nat.le_add_right ..
  | cons u us ih =>
    rw [decodeWalk] at h
    split at h
    · cases h
    split at h
    · cases h
    split at h
    · cases h
    split at h
    · cases h
    split at h
    all_goals
      have := ih h
      simp only [List.length_append, List.length_cons, List.length_nil] at this ⊢
      omega

theorem decodeRule_success_length {s : State} {v : List Byte} (h : decodeRule s = some (.success v)) :
    v.length ≤ s.ibuf.length := by
  unfold decodeRule at h
  split_ifs at h
  · cases h
  · cases h
  · simpa using decodeWalk_success_length h

theorem State.push_ibuf_length_le {s : State} (u : Byte) (h : s.ibuf.length ≤ s.cfg.ibufDepth) :
    (s.push u).ibuf.length ≤ s.cfg.ibufDepth := by
  unfold State.push
  split
  · simpa
  · exact h

theorem Effect.keeps_buffersFit {s t : State} {i : Instr} (h : Effect s i t) (hb : BuffersFit s) (ht : TablesAgree s) :
    BuffersFit t := by
  obtain ⟨hwf, hi, ho⟩ := hb
  have hdepth : s.cfg.ibufDepth ≤ s.cfg.obufDepth := hwf.2.1
  cases h with
  | held | answered | ignored | busError | accepted | freqRead | illegal => exact ⟨hwf, hi, ho⟩
  | pushed w => exact ⟨by simpa using hwf, by simpa using State.push_ibuf_length_le _ hi, by simpa using ho⟩
  | popped => exact ⟨hwf, hi, by simp; omega⟩
  | built | failed => exact ⟨hwf, Nat.zero_le _, Nat.zero_le _⟩
  | encoded hr => exact ⟨hwf, Nat.zero_le _, encodeRule_success_length (s := s) hr⟩
  | decoded hr => exact ⟨hwf, Nat.zero_le _, ((decodeRule_success_length hr).trans hi).trans hdepth⟩
  | codeRead v => exact ⟨hwf, hi, by simpa using (ht.code_len_le v).trans hdepth⟩

/-! ### The held access -/

theorem Effect.keeps_heldIsHoldable {s t : State} {i : Instr} (h : Effect s i t) (hh : HeldIsHoldable s) :
    HeldIsHoldable t := by
  cases h with
  | held _ enc legal notStatus =>
    rintro a ⟨⟩
    exact ⟨isBusError_of_encode enc legal, (decodeAccess_of_encode enc legal).symm ▸ notStatus⟩
  | pushed w => exact fun a ha => hh a (by simpa using ha)
  | _ => exact hh

/-! ### The invariant -/

theorem resetOf_inv {p : Config.Params} (hp : p.WellFormed) : Inv (State.resetOf p) where
  buffers := ⟨hp, Nat.zero_le _, Nat.zero_le _⟩
  tables := ⟨nofun, fun _ => ⟨rfl, rfl, rfl⟩⟩
  held := nofun

/-- An instruction keeps the invariant. -/
theorem exec_keeps_inv {i : Instr} {s t : State} (hs : Inv s) (h : exec i s = .next t) : Inv t := by
  obtain ⟨hb, ht, hh⟩ := hs
  have he := exec_effect h
  exact ⟨he.keeps_buffersFit hb ht, he.keeps_tablesAgree ht hb.2.1, he.keeps_heldIsHoldable hh⟩

theorem takeReset_inv {s : State} (hs : Inv s) : Inv s.takeReset where
  buffers := ⟨hs.buffers.1, Nat.zero_le _, Nat.zero_le _⟩
  tables := ⟨nofun, fun _ => ⟨rfl, rfl, rfl⟩⟩
  held := nofun

/-- The invariant does not speak of the events to come or of the draw counter, and holds with nothing held. -/
theorem Inv.schedule {s : State} (hs : Inv s) {hd : Option Access} (es : List Event) (d : Nat)
    (hhd : hd = none ∨ hd = s.held) : Inv { s with held := hd, events := es, draws := d } where
  buffers := hs.buffers
  tables := SameTables.tablesAgree (s := s) (by constructor <;> rfl) hs.tables
  held a ha := by
    obtain rfl | rfl := hhd
    · cases ha
    · exact hs.held a ha

/-- Fetching keeps the held access, or takes it. -/
theorem fetch_start_held {s s' : State} (h : s.fetch.start? = some s') : s'.held = none ∨ s'.held = s.held := by
  obtain ⟨-, -, hf⟩ | ⟨-, -, hf⟩ | ⟨-, -, hf⟩ | ⟨-, a, -, hf⟩ | ⟨-, -, hf⟩ := fetch_cases s <;> rw [hf] at h
  · cases h; exact .inr rfl
  · cases h; exact .inr rfl
  · obtain ⟨es, rfl⟩ := fromOutside_start h
    exact .inr rfl
  · cases h; exact .inl rfl
  · obtain ⟨es, rfl⟩ := fromOutside_start h
    exact .inr rfl

theorem fetch_start_inv {s s' : State} (hs : Inv s) (h : s.fetch.start? = some s') : Inv s' := by
  have hheld := fetch_start_held h
  obtain ⟨hd, es, d, rfl⟩ := fetch_start h
  exact hs.schedule es d hheld

theorem step_keeps_inv {s t : State} (hs : Inv s) (h : step s = .next t) : Inv t := by
  obtain ⟨-, rfl⟩ | ⟨s', hf, hx⟩ | ⟨a, s', hf, hx⟩ | ⟨s', hf, rfl⟩ := step_cases h
  · exact hs
  · exact exec_keeps_inv (fetch_start_inv hs (by rw [hf]; rfl)) hx
  · exact exec_keeps_inv (fetch_start_inv hs (by rw [hf]; rfl)) hx
  · exact takeReset_inv (fetch_start_inv hs (by rw [hf]; rfl))

/-- Settles O54: the event fetched starts from a state that meets the invariant, every effect keeps each of its three parts, and a reset
establishes it. -/
theorem stepKeepsInvariant : Obligations.StepKeepsInvariant :=
  fun _ _ => step_keeps_inv

/-- Settles O53: the default parameters are well formed, and the reset state of well-formed parameters meets the invariant. -/
theorem resetMeetsInvariant : Obligations.ResetMeetsInvariant :=
  resetOf_inv (by decide)

end Sys2Proof.Machine

/-!
The flags and the error record by their writers (10_state.md R24 to R28, R45), the STATUS word (R23, R29), the reset values (R46) and the
independence of instances (R47).
-/

namespace Sys2Proof.Machine

open Sys2Proof

/-! ### Which effect writes what -/

/-- Only an acceptance sets BUSY (10_state.md R24). -/
theorem Effect.accepted_of_busy_set {s t : State} {i : Instr} (h : Effect s i t) (hs : s.busy = false)
    (ht : t.busy = true) : ∃ w, i = .wrCmd w ∧ t.pend = w := by
  cases h with
  | accepted w => exact ⟨w, rfl, rfl⟩
  | pushed w => simp [hs] at ht
  | held | answered | ignored | busError | popped => cases hs.symm.trans ht
  | _ => cases ht

/-- Only a completion clears BUSY (10_state.md R24). -/
theorem Effect.command_of_busy_cleared {s t : State} {i : Instr} (h : Effect s i t) (hs : s.busy = true)
    (ht : t.busy = false) : ∃ w, encode i = .command w := by
  cases h with
  | accepted w => cases ht
  | pushed w => simp [hs] at ht
  | held | answered | ignored | busError | popped => cases hs.symm.trans ht
  | failed hi => obtain rfl | rfl | rfl := hi <;> exact ⟨_, rfl⟩
  | _ => exact ⟨_, rfl⟩

/-- Only a BUILD that succeeds writes BUILT (10_state.md R25). -/
theorem Effect.build_of_built_changed {s t : State} {i : Instr} (h : Effect s i t) (hne : t.built ≠ s.built) :
    i = .build ∧ t.built = true ∧ t.err = .ok := by
  obtain hsame | ⟨rfl, -, rfl⟩ := h.sameTables
  · exact absurd hsame.built hne
  · exact ⟨rfl, rfl, rfl⟩

theorem State.push_inOvf_changed {s : State} {u : Byte} (h : (s.push u).inOvf ≠ s.inOvf) :
    (s.push u).inOvf = true ∧ s.cfg.ibufDepth ≤ s.ibuf.length := by
  unfold State.push at h ⊢
  split at h
  · exact absurd rfl h
  next hfull => rw [if_neg hfull]; exact ⟨rfl, Nat.le_of_not_lt hfull⟩

/-- IN_OVF is set by a push to a full IBUF and cleared by a data command (10_state.md R26). -/
theorem Effect.writer_of_inOvf_changed {s t : State} {i : Instr} (h : Effect s i t) (hne : t.inOvf ≠ s.inOvf) :
    ((∃ w, i = .wrInData w) ∧ t.inOvf = true ∧ s.cfg.ibufDepth ≤ s.ibuf.length) ∨
      (IsDataCommand i ∧ t.inOvf = false) := by
  cases h with
  | pushed w => exact .inl ⟨⟨w, rfl⟩, State.push_inOvf_changed hne⟩
  | built => exact .inr ⟨.inl rfl, rfl⟩
  | encoded => exact .inr ⟨.inr (.inl rfl), rfl⟩
  | decoded => exact .inr ⟨.inr (.inr rfl), rfl⟩
  | failed hi => exact .inr ⟨hi, rfl⟩
  | _ => exact absurd rfl hne

/-- No access writes the record of the last completion (10_state.md R27, R45). -/
theorem Effect.access_keeps_record {s t : State} {i : Instr} {a : Access} (h : Effect s i t)
    (ha : encode i = .access a) :
    t.err = s.err ∧ t.detail = s.detail ∧ t.result = s.result ∧ t.errIndex = s.errIndex := by
  cases h with
  | built | encoded | decoded | freqRead | codeRead | illegal => cases ha
  | failed hi => obtain rfl | rfl | rfl := hi <;> cases ha
  | _ => simp

/-- Settles O51: each flag and the record, effect by effect. -/
theorem flagsHaveOnlyTheirWriters : Obligations.FlagsHaveOnlyTheirWriters := by
  intro i s t h
  have he := exec_effect h
  exact ⟨he.accepted_of_busy_set, he.command_of_busy_cleared, he.build_of_built_changed, he.writer_of_inOvf_changed,
    fun ⟨_, ha⟩ => he.access_keeps_record ha⟩

/-! ### The STATUS word -/

theorem toNat_append_eq_add {m n : Nat} (x : BitVec m) (y : BitVec n) : (x ++ y).toNat = x.toNat * 2 ^ n + y.toNat := by
  rw [BitVec.toNat_append, ← Nat.shiftLeft_add_eq_or_of_lt y.isLt, Nat.shiftLeft_eq]

/-- The STATUS word as a sum of its fields (10_state.md R23). -/
theorem State.toNat_status (s : State) : s.status.toNat =
    256 * s.detail.code.toNat + 16 * s.err.code.toNat + 4 * s.inOvf.toNat + 2 * s.built.toNat + s.busy.toNat := by
  simp only [State.status, toNat_append_eq_add, BitVec.toNat_ofBool, BitVec.toNat_ofNat]
  omega

theorem getLsbD_of_div_mod {w : Nat} {v : BitVec w} {k : Nat} {b : Bool} (h : v.toNat / 2 ^ k % 2 = b.toNat) :
    v.getLsbD k = b := by
  rw [← BitVec.testBit_toNat, Nat.testBit_eq_decide_div_mod_eq, h]
  cases b <;> rfl

/-- Settles O14: each field is a digit of the sum, because the fields below it are too small to carry. -/
theorem statusWordLayout : Obligations.StatusWordLayout := by
  intro s
  have hsum := s.toNat_status
  have herr := s.err.code.isLt
  have hovf := s.inOvf.toNat_lt
  have hbuilt := s.built.toNat_lt
  have hbusy := s.busy.toNat_lt
  refine ⟨s.status, rfl, getLsbD_of_div_mod ?_, getLsbD_of_div_mod ?_, getLsbD_of_div_mod ?_,
    getLsbD_of_div_mod (b := false) ?_, ?_, ?_⟩
  · omega
  · omega
  · omega
  · rw [Bool.toNat_false]; omega
  · trans s.err.code.toNat
    · omega
    · cases s.err <;> rfl
  · trans s.detail.code.toNat
    · omega
    · cases s.detail <;> rfl

/-! ### The reset values -/

/-- Settles O21: State.reset is a case of State.resetOf, whose fields are those of the reset table whatever the parameters. -/
theorem resetLeavesTableValues : Obligations.ResetLeavesTableValues := by
  intro s hs
  obtain ⟨p, rfl⟩ : ∃ p, s = State.resetOf p := hs.elim (fun h => ⟨_, h⟩) id
  have hcode : ∀ v, entry (State.resetOf p).code v = CodeRec.empty := entry_replicate _
  have hstatus : (State.resetOf p).status = 0 := BitVec.eq_of_toNat_eq (State.toNat_status _)
  exact ⟨rfl, rfl, rfl, rfl, rfl, hstatus, rfl, rfl, rfl, rfl, rfl, rfl, entry_replicate _,
    fun v => by rw [hcode v]; exact ⟨rfl, rfl⟩, rfl⟩

/-! ### Several instances -/

/-- Settles O59: a step and a routed access modify one entry of the list of instances. -/
theorem instancesAreIndependent : Obligations.InstancesAreIndependent := by
  intro p k j hjk
  have hmodify : ∀ f : State → State, (p.modify k f)[j]? = p[j]? := fun f => List.getElem?_modify_ne f p hjk.symm
  refine ⟨hmodify _, fun addr n ho => ?_, fun addr n v ho => ?_⟩
  · rw [platformRead, ho]
    exact hmodify _
  · rw [platformWrite, ho]
    exact hmodify _

end Sys2Proof.Machine

/-!
The register port (20_memory.md): the register map and the bus errors (R61 to R65), the registers of one direction (R68, R69), who writes the
engine tables (R78), and that every access is answered once (R72).
-/

namespace Sys2Proof.Machine

open Sys2Proof

/-! ### The register map and the bus errors -/

/-- Settles O5: each access of the map is the encoding of its instruction. -/
theorem registerMapDecodes : Obligations.RegisterMapDecodes := by
  intro v
  refine ⟨?_, ?_, ?_, ?_, ?_, ?_, ?_, ?_, ?_, ?_, ?_, ?_, ?_, ?_, ?_, ?_⟩ <;> exact decodeAccess_of_encode rfl nofun

/-- The three grounds of a bus error (20_memory.md R62 to R64). -/
theorem isBusError_iff (a : Access) :
    a.isBusError = true ↔ a.width ≠ 32 ∨ a.off.toNat % 4 ≠ 0 ∨ 0x20 ≤ a.off.toNat := by
  simp [Access.isBusError, or_assoc]

/-- The registers fill the first eight words of the window (20_memory.md R61). -/
theorem exists_offset_eq {k : Nat} (hk : k < 8) : ∃ r : Reg, r.offset.toNat = 4 * k := by
  interval_cases k
  exacts [⟨.cmd, rfl⟩, ⟨.status, rfl⟩, ⟨.result, rfl⟩, ⟨.errIndex, rfl⟩, ⟨.inData, rfl⟩, ⟨.inCount, rfl⟩, ⟨.outData, rfl⟩,
    ⟨.outCount, rfl⟩]

/-- A legal access is at the offset of a register. -/
theorem off_of_legal {a : Access} (h : a.isBusError = false) : ∃ r : Reg, a.off = r.offset := by
  have hlegal := mt (isBusError_iff a).mpr (by simp [h])
  obtain ⟨k, hk, hoff⟩ : ∃ k < 8, a.off.toNat = 4 * k := ⟨a.off.toNat / 4, by omega, by omega⟩
  exact (exists_offset_eq hk).imp fun r hr => BitVec.eq_of_toNat_eq (hoff.trans hr.symm)

theorem decodeRead_ne_busError {a : Access} {r : Reg} (h : a.off = r.offset) (b : Access) : decodeRead a ≠ .busError b := by
  cases r <;> simp [decodeRead, h, Reg.offset]

theorem decodeWrite_ne_busError {a : Access} {r : Reg} (h : a.off = r.offset) (d : Word) (b : Access) :
    decodeWrite a d ≠ .busError b := by
  cases r <;> simp [decodeWrite, h, Reg.offset]

/-- A legal access decodes to the instruction of a register. -/
theorem decodeAccess_ne_busError {a : Access} (h : a.isBusError = false) (b : Access) : decodeAccess a ≠ .busError b := by
  obtain ⟨r, hr⟩ := off_of_legal h
  cases a with
  | read w o => simpa [decodeAccess, h] using decodeRead_ne_busError hr b
  | write w o d => simpa [decodeAccess, h] using decodeWrite_ne_busError hr d b

theorem decodeAccess_eq_busError_iff (a : Access) : decodeAccess a = .busError a ↔ a.isBusError = true := by
  refine ⟨fun h => ?_, fun h => by simp [decodeAccess, h]⟩
  by_contra hlegal
  exact decodeAccess_ne_busError (by simpa using hlegal) a h

/-- No effect clears the record of a bus error (20_memory.md R65, 60_exceptions.md R233). -/
theorem Effect.keeps_busFault {s t : State} {i : Instr} (h : Effect s i t) (hs : s.busFault = true) :
    t.busFault = true := by
  cases h with
  | busError => rfl
  | pushed w => simpa using hs
  | _ => exact hs

theorem fetch_start_busFault {s s' : State} (h : s.fetch.start? = some s') : s'.busFault = s.busFault := by
  obtain ⟨hd, es, d, rfl⟩ := fetch_start h
  rfl

theorem step_keeps_busFault {s t : State} (h : step s = .next t) (hs : s.busFault = true) : t.busFault = true := by
  obtain ⟨-, rfl⟩ | ⟨s', hf, hx⟩ | ⟨a, s', hf, hx⟩ | ⟨s', hf, rfl⟩ := step_cases h
  · exact hs
  all_goals have hs' : s'.busFault = true := (fetch_start_busFault (by rw [hf]; rfl)).trans hs
  · exact (exec_effect hx).keeps_busFault hs'
  · exact (exec_effect hx).keeps_busFault hs'
  · exact hs'

/-- Settles O20: the decoder tests the three grounds first and every other access is a register's; the record is kept effect by effect. -/
theorem busErrorsChangeNothingAndStay : Obligations.BusErrorsChangeNothingAndStay :=
  ⟨fun a => (decodeAccess_eq_busError_iff a).trans (isBusError_iff a), fun _ _ => rfl, fun _ _ => step_keeps_busFault⟩

/-! ### The registers of one direction -/

/-- Settles O18: an access performed at once that answers 0. -/
theorem writeOnlyReadsReturnZero : Obligations.WriteOnlyReadsReturnZero :=
  fun _ _ hidle => hostAccess_idle hidle

/-- Settles O19: accesses performed at once whose effect is the ignored write. -/
theorem readOnlyWritesIgnored : Obligations.ReadOnlyWritesIgnored :=
  fun _ _ hidle => ⟨hostAccess_idle hidle, hostAccess_idle hidle, hostAccess_idle hidle, hostAccess_idle hidle,
    hostAccess_idle hidle, hostAccess_idle hidle⟩

/-! ### The writer of the engine tables -/

/-- Settles O49: every effect but the commit of a BUILD leaves the tables, and the commit is a BUILD that ends with OK. -/
theorem onlyBuildWritesTables : Obligations.OnlyBuildWritesTables := by
  intro i s t h hfails
  obtain hsame | ⟨hbuild, -, rfl⟩ := (exec_effect h).sameTables
  · exact ⟨hsame.freq, hsame.node, hsame.nodeCount, hsame.root, hsame.code, hsame.built⟩
  · exact absurd rfl (hfails hbuild)

/-! ### Every access is answered once -/

theorem encode_decodeCommand (w : Word) : ∃ v, encode (decodeCommand w) = .command v := by
  unfold decodeCommand
  split_ifs
  · exact ⟨_, rfl⟩
  · exact ⟨_, rfl⟩
  · split <;> exact ⟨_, rfl⟩

theorem encode_decodeAccess (a : Access) : ∃ b, encode (decodeAccess a) = .access b := by
  unfold decodeAccess
  split_ifs
  · exact ⟨a, rfl⟩
  · cases a
    · simp only [decodeRead]; split <;> exact ⟨_, rfl⟩
    · simp only [decodeWrite]; split <;> exact ⟨_, rfl⟩

/-- A completion answers nothing and takes no access. -/
theorem Effect.command_keeps_host {s t : State} {i : Instr} {w : Word} (h : Effect s i t) (hi : encode i = .command w) :
    t.resp = s.resp ∧ t.held = s.held ∧ t.events = s.events := by
  cases h with
  | held _ enc | answered enc | ignored enc => cases enc.symm.trans hi
  | busError | accepted | pushed | popped => cases hi
  | _ => exact ⟨rfl, rfl, rfl⟩

/-- An access is answered, or kept to be performed later. -/
theorem Effect.access_answered_or_held {s t : State} {i : Instr} {a : Access} (h : Effect s i t)
    (hi : encode i = .access a) :
    t.events = s.events ∧
      ((∃ r, t.resp = s.resp ++ [r] ∧ t.held = s.held) ∨ (t.resp = s.resp ∧ ∃ b, t.held = some b)) := by
  cases h with
  | held => exact ⟨rfl, .inr ⟨rfl, _, rfl⟩⟩
  | answered | ignored | busError | accepted | popped => exact ⟨rfl, .inl ⟨_, rfl, rfl⟩⟩
  | pushed w => exact ⟨by simp, .inl ⟨.done, by simp, by simp⟩⟩
  | built | encoded | decoded | freqRead | codeRead | illegal => cases hi
  | failed hdata => obtain rfl | rfl | rfl := hdata <;> cases hi

/-- How many accesses are still without an answer: the one held and those to come. -/
def State.unanswered (s : State) : Nat := s.held.toList.length + (s.events.filter (· ≠ .reset)).length

@[simp] theorem State.unanswered_drawn (s : State) : s.drawn.unanswered = s.unanswered := rfl

theorem fromOutside_ne_command (s s' : State) : s.fromOutside ≠ .command s' := by
  obtain ⟨-, hf⟩ | ⟨a, es, -, hf⟩ | ⟨es, -, hf⟩ := fromOutside_cases s <;> rw [hf] <;> nofun

/-- An access that the outside world does next, while none is held, is one access less to come. -/
theorem fromOutside_access {s s' : State} {a : Access} (h : s.fromOutside = .access a s') :
    (∃ es, s.events = .access a :: es) ∧ s'.held = s.held ∧ s.unanswered = s'.unanswered + 1 := by
  obtain ⟨-, hf⟩ | ⟨b, es, he, hf⟩ | ⟨es, -, hf⟩ := fromOutside_cases s <;> cases hf.symm.trans h
  refine ⟨⟨es, he⟩, rfl, ?_⟩
  simp [State.unanswered, he, Nat.add_assoc]

theorem fromOutside_reset {s s' : State} (h : s.fromOutside = .reset s') : s'.unanswered = s.unanswered := by
  obtain ⟨-, hf⟩ | ⟨b, es, -, hf⟩ | ⟨es, he, hf⟩ := fromOutside_cases s <;> cases hf.symm.trans h
  simp [State.unanswered, he]

/-- While an access is held the host issues no later one (40_command_lifecycle.md R111). -/
theorem held_of_contested_access {s : State} {a : Access} {es : List Event} (h : s.contested = true)
    (he : s.events = .access a :: es) : s.held = none := by
  cases hh : s.held with
  | none => rfl
  | some b => simp [State.contested, hh, he] at h

theorem fetch_command_unanswered {s s' : State} (h : s.fetch = .command s') : s'.unanswered = s.unanswered := by
  obtain ⟨-, -, hf⟩ | ⟨-, -, hf⟩ | ⟨-, -, hf⟩ | ⟨-, a, -, hf⟩ | ⟨-, -, hf⟩ := fetch_cases s <;> rw [hf] at h
  · cases h; rfl
  · cases h; rfl
  · exact absurd h (fromOutside_ne_command _ _)
  · cases h
  · exact absurd h (fromOutside_ne_command _ _)

/-- An access is fetched only when no other is held, so performing or holding it loses none. -/
theorem fetch_access_unanswered {s s' : State} {a : Access} (h : s.fetch = .access a s') :
    s'.held = none ∧ s.unanswered = s'.unanswered + 1 := by
  obtain ⟨-, -, hf⟩ | ⟨-, -, hf⟩ | ⟨-, hc, hf⟩ | ⟨-, b, hb, hf⟩ | ⟨-, hn, hf⟩ := fetch_cases s <;> rw [hf] at h
  · cases h
  · cases h
  · obtain ⟨⟨es, he⟩, hheld, hcount⟩ := fromOutside_access h
    exact ⟨hheld.trans (held_of_contested_access hc he), hcount⟩
  · cases h
    exact ⟨rfl, by simp [State.unanswered, hb, Nat.add_comm]⟩
  · obtain ⟨-, hheld, hcount⟩ := fromOutside_access h
    exact ⟨hheld.trans hn, hcount⟩

theorem fetch_reset_unanswered {s s' : State} (h : s.fetch = .reset s') : s'.unanswered = s.unanswered := by
  obtain ⟨-, -, hf⟩ | ⟨-, -, hf⟩ | ⟨-, -, hf⟩ | ⟨-, a, -, hf⟩ | ⟨-, -, hf⟩ := fetch_cases s <;> rw [hf] at h
  · cases h
  · cases h
  · exact (fromOutside_reset h).trans s.unanswered_drawn
  · cases h
  · exact fromOutside_reset h

theorem fetch_start_resp {s s' : State} (h : s.fetch.start? = some s') : s'.resp = s.resp := by
  obtain ⟨hd, es, d, rfl⟩ := fetch_start h
  rfl

/-- An access performed while none is held adds its answer, or is the one held from then on. -/
theorem exec_access_unanswered {s t : State} {a : Access} (h : exec (decodeAccess a) s = .next t) (hheld : s.held = none) :
    ∃ r, t.resp = s.resp ++ r ∧ r.length ≤ 1 ∧ r.length + t.unanswered = s.unanswered + 1 := by
  obtain ⟨b, hb⟩ := encode_decodeAccess a
  obtain ⟨hev, ⟨r, hr, hh⟩ | ⟨hr, c, hh⟩⟩ := (exec_effect h).access_answered_or_held hb
  · exact ⟨[r], hr, le_rfl, by simp [State.unanswered, hev, hh, Nat.add_comm]⟩
  · exact ⟨[], by simpa using hr, Nat.zero_le _, by simp [State.unanswered, hev, hh, hheld, Nat.add_comm]⟩

theorem exec_command_unanswered {s t : State} {w : Word} (h : exec (decodeCommand w) s = .next t) :
    t.resp = s.resp ∧ t.unanswered = s.unanswered := by
  obtain ⟨v, hv⟩ := encode_decodeCommand w
  obtain ⟨hr, hh, hev⟩ := (exec_effect h).command_keeps_host hv
  exact ⟨hr, by rw [State.unanswered, hh, hev, State.unanswered]⟩

/-- A reset answers the held access (70_reset_and_hazards.md R252). -/
theorem length_resetAnswer (held : Option Access) : (resetAnswer held).length = held.toList.length := by
  rcases held with _ | ⟨_ | _⟩ <;> rfl

theorem takeReset_unanswered (s : State) : (resetAnswer s.held).length + s.takeReset.unanswered = s.unanswered := by
  simp [State.unanswered, length_resetAnswer]

/-- What a step answers leaves the accesses without an answer. -/
theorem step_unanswered {s t : State} (h : step s = .next t) :
    ∃ r, t.resp = s.resp ++ r ∧ r.length ≤ 1 ∧ r.length + t.unanswered = s.unanswered := by
  obtain ⟨-, rfl⟩ | ⟨s', hf, hx⟩ | ⟨a, s', hf, hx⟩ | ⟨s', hf, rfl⟩ := step_cases h
  · exact ⟨[], by simp, by simp, by simp⟩
  all_goals have hresp : s'.resp = s.resp := fetch_start_resp (by rw [hf]; rfl)
  · obtain ⟨hr, hu⟩ := exec_command_unanswered hx
    exact ⟨[], by simp [hr, hresp], by simp, by simp [hu, fetch_command_unanswered hf]⟩
  · obtain ⟨hheld, hu⟩ := fetch_access_unanswered hf
    obtain ⟨r, hr, hle, hsum⟩ := exec_access_unanswered hx hheld
    exact ⟨r, hresp ▸ hr, hle, hsum.trans hu.symm⟩
  · have hle : (resetAnswer s'.held).length ≤ 1 := length_resetAnswer _ ▸ Option.length_toList_le
    exact ⟨resetAnswer s'.held, by simp [hresp], hle, (takeReset_unanswered s').trans (fetch_reset_unanswered hf)⟩

/-- Settles O57: an access leaves the ones without an answer exactly when it is answered, and a step answers at most one. -/
theorem eachAccessAnsweredOnce : Obligations.EachAccessAnsweredOnce := by
  intro s t h
  obtain ⟨r, hr, hle, hsum⟩ := step_unanswered h
  refine ⟨?_, r, hr, hle⟩
  simp only [State.unanswered] at hsum
  rw [hr, List.length_append]
  omega

end Sys2Proof.Machine

/-!
The encodings of 30_encoding.md: command words by their fields (R85 to R89), the round trips of the decoder and the encoder, the record of an
illegal word, the host-program mnemonics (R101, R102), the layout of a NODE record (R98), and the data words of a push and a pop (R91, R92).
-/

namespace Sys2Proof.Machine

open Sys2Proof

/-! ### The fields of a command word -/

/-- A command word as a sum of its fields (30_encoding.md R85). -/
theorem toNat_commandWord (rsv1 : BitVec 16) (sym : Byte) (rsv0 op : BitVec 4) :
    (commandWord rsv1 sym rsv0 op).toNat = 65536 * rsv1.toNat + 256 * sym.toNat + 16 * rsv0.toNat + op.toNat := by
  simp only [commandWord, toNat_append_eq_add]
  omega

/-- A bit slice is a digit of the number (00_scope.md R10). -/
theorem extractLsb'_of_div_mod {w n k : Nat} {v : BitVec w} {x : BitVec n} (h : v.toNat / 2 ^ k % 2 ^ n = x.toNat) :
    v.extractLsb' k n = x :=
  BitVec.eq_of_toNat_eq (by rw [BitVec.extractLsb'_toNat, Nat.shiftRight_eq_div_pow, h])

section

variable (rsv1 : BitVec 16) (sym : Byte) (rsv0 op : BitVec 4)

/-- The digits of a command word are its fields. -/
@[simp] theorem commandWord_digits :
    (commandWord rsv1 sym rsv0 op).toNat % 16 = op.toNat ∧ (commandWord rsv1 sym rsv0 op).toNat / 16 % 16 = rsv0.toNat ∧
    (commandWord rsv1 sym rsv0 op).toNat / 256 % 256 = sym.toNat ∧
    (commandWord rsv1 sym rsv0 op).toNat / 65536 = rsv1.toNat := by
  have hsum := toNat_commandWord rsv1 sym rsv0 op
  refine ⟨?_, ?_, ?_, ?_⟩ <;> omega

@[simp] theorem fieldOp_commandWord : fieldOp (commandWord rsv1 sym rsv0 op) = op :=
  extractLsb'_of_div_mod (by simp)

@[simp] theorem fieldRsv0_commandWord : fieldRsv0 (commandWord rsv1 sym rsv0 op) = rsv0 :=
  extractLsb'_of_div_mod (by simp)

@[simp] theorem fieldSym_commandWord : fieldSym (commandWord rsv1 sym rsv0 op) = sym :=
  extractLsb'_of_div_mod (by simp)

@[simp] theorem fieldRsv1_commandWord : fieldRsv1 (commandWord rsv1 sym rsv0 op) = rsv1 :=
  extractLsb'_of_div_mod (by simpa using Nat.mod_eq_of_lt rsv1.isLt)

end

/-- The four fields hold the whole word. -/
theorem commandWord_fields (w : Word) : commandWord (fieldRsv1 w) (fieldSym w) (fieldRsv0 w) (fieldOp w) = w := by
  apply BitVec.eq_of_toNat_eq
  rw [toNat_commandWord]
  simp only [fieldRsv1, fieldSym, fieldRsv0, fieldOp, BitVec.extractLsb'_toNat, Nat.shiftRight_eq_div_pow]
  omega

/-- The words of READ_FREQ and READ_CODE as 30_encoding.md R86 writes them. -/
theorem or_shiftLeft_eq_commandWord (op : BitVec 4) (s : Byte) :
    op.zeroExtend 32 ||| (s.zeroExtend 32 <<< 8) = commandWord 0 s 0 op := by
  have hlow : (op.zeroExtend 32).toNat < 2 ^ 8 := by
    rw [BitVec.toNat_setWidth]
    omega
  have hshift : (s.zeroExtend 32 <<< 8).toNat = s.toNat <<< 8 := by
    rw [BitVec.toNat_shiftLeft, BitVec.toNat_setWidth, Nat.shiftLeft_eq, Nat.shiftLeft_eq]
    omega
  apply BitVec.eq_of_toNat_eq
  rw [BitVec.toNat_or, hshift, Nat.or_comm, ← Nat.shiftLeft_add_eq_or_of_lt hlow, toNat_commandWord, Nat.shiftLeft_eq,
    BitVec.toNat_setWidth]
  bv_omega

/-! ### The tests of the classification (30_encoding.md R89) -/

theorem badOpcode_iff (op : BitVec 4) : badOpcode op = true ↔ op.toNat = 0 ∨ 6 ≤ op.toNat := by
  simp [badOpcode, ← BitVec.toNat_inj, BitVec.le_def]

theorem badReserved_iff (op rsv0 : BitVec 4) (sym : Byte) (rsv1 : BitVec 16) :
    badReserved op rsv0 sym rsv1 = true ↔ (rsv0.toNat ≠ 0 ∨ rsv1.toNat ≠ 0) ∨
      ((op.toNat = 1 ∨ op.toNat = 2 ∨ op.toNat = 3) ∧ sym.toNat ≠ 0) := by
  simp [badReserved, ← BitVec.toNat_inj, or_assoc]

theorem wellFormed_illegal_iff (op rsv0 : BitVec 4) (sym : Byte) (rsv1 : BitVec 16) :
    (Instr.illegal op rsv0 sym rsv1).wellFormed = true ↔ (op.toNat = 0 ∨ 6 ≤ op.toNat) ∨
      (rsv0.toNat ≠ 0 ∨ rsv1.toNat ≠ 0) ∨ ((op.toNat = 1 ∨ op.toNat = 2 ∨ op.toNat = 3) ∧ sym.toNat ≠ 0) := by
  rw [Instr.wellFormed, Bool.or_eq_true, badOpcode_iff, badReserved_iff]

/-- The fields of a word that no test refuses (30_encoding.md R86, R88). -/
theorem legal_fields {op rsv0 : BitVec 4} {sym : Byte} {rsv1 : BitVec 16}
    (h : ¬(Instr.illegal op rsv0 sym rsv1).wellFormed = true) :
    rsv1 = 0 ∧ rsv0 = 0 ∧ (((op = 1 ∨ op = 2 ∨ op = 3) ∧ sym = 0) ∨ op = 4 ∨ op = 5) := by
  rw [wellFormed_illegal_iff] at h
  bv_omega

/-! ### The round trips -/

theorem decodeCommand_illegal {op rsv0 : BitVec 4} {sym : Byte} {rsv1 : BitVec 16}
    (h : (Instr.illegal op rsv0 sym rsv1).wellFormed = true) :
    decodeCommand (commandWord rsv1 sym rsv0 op) = .illegal op rsv0 sym rsv1 := by
  obtain hop | hres : badOpcode op = true ∨ badReserved op rsv0 sym rsv1 = true := Bool.or_eq_true_iff.mp h
  · simp [decodeCommand, hop]
  · simp [decodeCommand, hres]

theorem decodeCommand_readFreq (s : Byte) : decodeCommand (commandWord 0 s 0 4) = .readFreq s := by
  simp [decodeCommand, badOpcode, badReserved]

theorem decodeCommand_readCode (s : Byte) : decodeCommand (commandWord 0 s 0 5) = .readCode s := by
  simp [decodeCommand, badOpcode, badReserved]

/-- The word that encodes a well-formed command decodes to it. -/
theorem decodeCommand_of_encode {i : Instr} {w : Word} (h : encode i = .command w) (hi : i.wellFormed = true) :
    decodeCommand w = i := by
  cases i with
  | build | encode | decode => cases h; rfl
  | readFreq s => cases h; exact decodeCommand_readFreq s
  | readCode s => cases h; exact decodeCommand_readCode s
  | illegal op rsv0 sym rsv1 => cases h; exact decodeCommand_illegal hi
  | rdWriteOnly reg => cases reg <;> cases h
  | _ => cases h

/-- Settles O1: a command word by its fields, an access by the register map, and a bus error by its grounds. -/
theorem decodeOfEncodeGivesInstr : Obligations.DecodeOfEncodeGivesInstr := by
  intro i hi
  cases henc : encode i with
  | command w => exact decodeCommand_of_encode henc hi
  | access a =>
    by_cases hbus : ∃ b, i = .busError b
    · obtain ⟨b, rfl⟩ := hbus
      cases henc
      exact (decodeAccess_eq_busError_iff _).mpr hi
    · exact decodeAccess_of_encode henc (by simpa using hbus)

/-- Every command word is the encoding of a well-formed command. -/
theorem exists_encode_eq_command (w : Word) : ∃ i : Instr, i.wellFormed = true ∧ encode i = .command w := by
  rw [← commandWord_fields w]
  generalize fieldRsv1 w = rsv1, fieldSym w = sym, fieldRsv0 w = rsv0, fieldOp w = op
  by_cases hwf : (Instr.illegal op rsv0 sym rsv1).wellFormed = true
  · exact ⟨_, hwf, rfl⟩
  obtain ⟨rfl, rfl, ⟨rfl | rfl | rfl, rfl⟩ | rfl | rfl⟩ := legal_fields hwf
  exacts [⟨.build, rfl, rfl⟩, ⟨.encode, rfl, rfl⟩, ⟨.decode, rfl, rfl⟩, ⟨.readFreq sym, rfl, rfl⟩, ⟨.readCode sym, rfl, rfl⟩]

theorem exists_encode_eq_regRead (r : Reg) : ∃ i : Instr, i.wellFormed = true ∧ encode i = .access (regRead r.offset) := by
  cases r
  exacts [⟨.rdWriteOnly .cmd, rfl, rfl⟩, ⟨.rdStatus, rfl, rfl⟩, ⟨.rdResult, rfl, rfl⟩, ⟨.rdErrIndex, rfl, rfl⟩,
    ⟨.rdWriteOnly .inData, rfl, rfl⟩, ⟨.rdInCount, rfl, rfl⟩, ⟨.rdOutData, rfl, rfl⟩, ⟨.rdOutCount, rfl, rfl⟩]

theorem exists_encode_eq_regWrite (r : Reg) (v : Word) :
    ∃ i : Instr, i.wellFormed = true ∧ encode i = .access (regWrite r.offset v) := by
  cases r
  exacts [⟨.wrCmd v, rfl, rfl⟩, ⟨.wrStatus v, rfl, rfl⟩, ⟨.wrResult v, rfl, rfl⟩, ⟨.wrErrIndex v, rfl, rfl⟩,
    ⟨.wrInData v, rfl, rfl⟩, ⟨.wrInCount v, rfl, rfl⟩, ⟨.wrOutData v, rfl, rfl⟩, ⟨.wrOutCount v, rfl, rfl⟩]

/-- Every access is the encoding of a well-formed instruction: a bus error's, or a register's. -/
theorem exists_encode_eq_access (a : Access) : ∃ i : Instr, i.wellFormed = true ∧ encode i = .access a := by
  cases hbus : a.isBusError with
  | true => exact ⟨.busError a, hbus, rfl⟩
  | false =>
    obtain ⟨r, hr⟩ := off_of_legal hbus
    have hwidth : a.width = 32 := by
      by_contra hne
      simp [(isBusError_iff a).mpr (.inl hne)] at hbus
    cases a with
    | read w o => cases hwidth; cases hr; exact exists_encode_eq_regRead r
    | write w o v => cases hwidth; cases hr; exact exists_encode_eq_regWrite r v

/-- Settles O2: each word or access is the encoding of a well-formed instruction, which decoding then gives back. -/
theorem encodeOfDecodeGivesWord : Obligations.EncodeOfDecodeGivesWord := by
  intro e
  obtain ⟨i, hwf, rfl⟩ : ∃ i : Instr, i.wellFormed = true ∧ encode i = e :=
    match e with
    | .command w => exists_encode_eq_command w
    | .access a => exists_encode_eq_access a
  rw [decodeOfEncodeGivesInstr i hwf]
  exact ⟨hwf, rfl⟩

/-! ### The legal command words -/

/-- Settles O3: every word encodes a well-formed command, and the commands that are not illegal encode to the listed words. -/
theorem legalCommandWordsAreListed : Obligations.LegalCommandWordsAreListed := by
  refine ⟨rfl, rfl, rfl, fun s => ?_, fun s => ?_, fun w hbuild hencode hdecode hfreq hcode => ?_⟩
  · exact (congrArg decodeCommand (or_shiftLeft_eq_commandWord 4 s)).trans (decodeCommand_readFreq s)
  · exact (congrArg decodeCommand (or_shiftLeft_eq_commandWord 5 s)).trans (decodeCommand_readCode s)
  obtain ⟨i, hwf, henc⟩ := exists_encode_eq_command w
  cases i with
  | illegal op rsv0 sym rsv1 => exact ⟨op, rsv0, sym, rsv1, decodeCommand_of_encode henc hwf⟩
  | build => cases henc; exact absurd rfl hbuild
  | encode => cases henc; exact absurd rfl hencode
  | decode => cases henc; exact absurd rfl hdecode
  | readFreq s => cases henc; exact absurd (or_shiftLeft_eq_commandWord 4 s).symm (hfreq s)
  | readCode s => cases henc; exact absurd (or_shiftLeft_eq_commandWord 5 s).symm (hcode s)
  | rdWriteOnly reg => cases reg <;> cases henc
  | _ => cases henc

/-- The completion of an illegal word (40_command_lifecycle.md R119). -/
theorem exec_illegal (op rsv0 : BitVec 4) (sym : Byte) (rsv1 : BitVec 16) (s : State) :
    exec (.illegal op rsv0 sym rsv1) s = .next { s with
      busy := false, err := .illegalCommand,
      detail := if op.toNat = 0 ∨ 6 ≤ op.toNat then .badOpcode else .rsvField,
      errIndex := 0, result := 0, pend := Config.freePend s.draws, draws := s.draws + 1 } := by
  simp only [← badOpcode_iff]
  rfl

/-- Settles O4: the word is the encoding of a well-formed command, whose fields say which test applies. -/
theorem commandWordTestsInOrder : Obligations.CommandWordTestsInOrder := by
  intro w s
  obtain ⟨i, hwf, henc⟩ := exists_encode_eq_command w
  rw [decodeCommand_of_encode henc hwf]
  cases i with
  | illegal op rsv0 sym rsv1 =>
    cases henc
    rw [wellFormed_illegal_iff] at hwf
    simp only [exec_illegal, commandWord_digits]
    split
    next => exact ⟨_, _, rfl⟩
    next hop =>
      split
      next => exact ⟨_, _, rfl⟩
      next hrsv =>
        rw [if_pos ((hwf.resolve_left hop).resolve_left hrsv)]
        exact ⟨_, _, rfl⟩
  | build | encode | decode => cases henc; rfl
  | readFreq v => cases henc; simp
  | readCode v => cases henc; simp
  | rdWriteOnly reg => cases reg <;> cases henc
  | _ => cases henc

/-- Settles O6: each word or access is the encoding of the instruction, or has a ground of a bus error. -/
theorem vectorWordsDecode : Obligations.VectorWordsDecode := by
  refine ⟨?_, ?_, ?_, ?_, ?_, ?_, ?_, ?_, ?_, ?_, ?_, ?_⟩
  iterate 9 exact decodeCommand_of_encode rfl rfl
  iterate 3 exact (decodeAccess_eq_busError_iff _).mpr rfl

/-! ### Host-program mnemonics -/

/-- Pushing a string writes IN_DATA once for each unit (30_encoding.md R102). -/
theorem hostPushs_eq_map (us : List Byte) : hostPushs us = us.map fun u => regWrite 0x10 (u.zeroExtend 32) :=
  List.map_eq_flatMap.symm

/-- Draining reads OUT_COUNT once and OUT_DATA once for each unit (30_encoding.md R102). -/
theorem hostDrain_eq (k : Nat) : hostDrain k = regRead 0x1C :: List.replicate k (regRead 0x18) := by
  simp [hostDrain, hostRd, Reg.offset]

/-- Settles O7: each access is the encoding of its instruction, and the words written to CMD are those of R86. -/
theorem hostMnemonicsExpand : Obligations.HostMnemonicsExpand := by
  obtain ⟨-, -, -, hfreq, hcode, -⟩ := legalCommandWordsAreListed
  refine ⟨rfl, rfl, rfl, fun s => ⟨_, rfl, hfreq s⟩, fun s => ⟨_, rfl, hcode s⟩, fun us => ?_, fun k => ?_⟩
  · rw [hostPushs_eq_map, List.map_map]
    exact List.map_congr_left fun u _ => decodeAccess_of_encode rfl nofun
  · rw [hostDrain_eq, List.map_cons, List.map_replicate]
    rfl

/-! ### The layout of a NODE record -/

/-- A packed NODE record as a sum of its fields (30_encoding.md R98). -/
theorem NodeRec.toNat_pack (n : NodeRec) : n.pack.toNat =
    2 ^ 60 * n.leaf.toNat + 2 ^ 52 * n.sym.toNat + 2 ^ 20 * n.freq.toNat + 2 ^ 19 * n.left.isSome.toNat +
      2 ^ 10 * (n.left.getD 0).toNat + 2 ^ 9 * n.right.isSome.toNat + (n.right.getD 0).toNat := by
  simp only [NodeRec.pack, toNat_append_eq_add, BitVec.toNat_ofBool]
  omega

/-- The digits of a packed NODE record are its fields. -/
theorem NodeRec.pack_digits (n : NodeRec) :
    n.pack.toNat / 2 ^ 60 = n.leaf.toNat ∧ n.pack.toNat / 2 ^ 52 % 2 ^ 8 = n.sym.toNat ∧
    n.pack.toNat / 2 ^ 20 % 2 ^ 32 = n.freq.toNat ∧ n.pack.toNat / 2 ^ 19 % 2 = n.left.isSome.toNat ∧
    n.pack.toNat / 2 ^ 10 % 2 ^ 9 = (n.left.getD 0).toNat ∧ n.pack.toNat / 2 ^ 9 % 2 = n.right.isSome.toNat ∧
    n.pack.toNat % 2 ^ 9 = (n.right.getD 0).toNat := by
  have hsum := n.toNat_pack
  have hsym := n.sym.isLt
  have hfreq := n.freq.isLt
  have hlv := n.left.isSome.toNat_lt
  have hleft := (n.left.getD 0).isLt
  have hrv := n.right.isSome.toNat_lt
  have hright := (n.right.getD 0).isLt
  refine ⟨?_, ?_, ?_, ?_, ?_, ?_, ?_⟩ <;> omega

/-- A child read back from its valid bit and its index bits. -/
theorem child_eq_of_isSome_getD (c : Option (BitVec 9)) : (if c.isSome then some (c.getD 0) else none) = c := by
  cases c <;> rfl

theorem NodeRec.unpack_pack (n : NodeRec) : NodeRec.unpack n.pack = n := by
  obtain ⟨hleaf, hsym, hfreq, hlv, hleft, hrv, hright⟩ := n.pack_digits
  have hleaf : n.pack.toNat / 2 ^ 60 % 2 = n.leaf.toNat := by rw [hleaf]; exact Nat.mod_eq_of_lt n.leaf.toNat_lt
  have hright : n.pack.toNat / 2 ^ 0 % 2 ^ 9 = (n.right.getD 0).toNat := by rwa [pow_zero, Nat.div_one]
  rw [NodeRec.unpack, getLsbD_of_div_mod hleaf, extractLsb'_of_div_mod hsym, extractLsb'_of_div_mod hfreq,
    getLsbD_of_div_mod hlv, extractLsb'_of_div_mod hleft, getLsbD_of_div_mod hrv, extractLsb'_of_div_mod hright,
    child_eq_of_isSome_getD, child_eq_of_isSome_getD]

/-- Settles O8: the fields are the digits of the packed number, and unpacking reads those digits. -/
theorem nodeLayoutRoundTrips : Obligations.NodeLayoutRoundTrips := by
  intro n
  obtain ⟨hleaf, hsym, hfreq, hlv, hleft, hrv, hright⟩ := n.pack_digits
  exact ⟨n.unpack_pack, hleaf, hsym, hfreq, hlv, fun l hl => by rw [hleft, hl, Option.getD_some], hrv,
    fun r hr => by rw [hright, hr, Option.getD_some]⟩

/-! ### Pushes and pops -/

/-- The unit of an IN_DATA write is the word's low byte (30_encoding.md R91). -/
theorem inDataUnit_eq (w : Word) : inDataUnit w = BitVec.ofNat 8 (w.toNat % 256) :=
  extractLsb'_of_div_mod (by simp)

/-- Settles O16: a write of IN_DATA while BUSY = 0 is a push of the word's low byte, answered. -/
theorem pushAppendsOrOverflows : Obligations.PushAppendsOrOverflows := by
  intro s w hidle
  refine (hostAccess_idle hidle).trans (congrArg _ ?_)
  rw [inDataUnit_eq, State.push]
  split <;> rfl

/-- VALID = 1 stands above the unit (30_encoding.md R92). -/
theorem outDataWord_cons (u : Byte) (us : List Byte) : outDataWord (u :: us) = BitVec.ofNat 32 (256 + u.toNat) := by
  apply BitVec.eq_of_toNat_eq
  simp only [outDataWord, toNat_append_eq_add, BitVec.toNat_ofNat]
  omega

theorem State.pop_of_empty {s : State} (h : s.obuf = []) : s.pop = s := by
  cases s
  cases h
  rfl

/-- Settles O17: a read of OUT_DATA while BUSY = 0 is a pop, answered with the word of R92. -/
theorem popReturnsFirstUnit : Obligations.PopReturnsFirstUnit := by
  intro s hidle
  have hpop : exec .rdOutData s = .next (s.pop.answerRead (outDataWord s.obuf)) := hostAccess_idle hidle
  refine ⟨fun hempty => ?_, fun u us hcons => ?_⟩
  · have hword : outDataWord s.obuf = 0 := by rw [hempty]; rfl
    rw [hpop, State.pop_of_empty hempty, hword]
    rfl
  · rw [hpop, State.pop, hcons, outDataWord_cons]
    rfl

end Sys2Proof.Machine

/-!
The life of a command (40_command_lifecycle.md): which event a step runs (R111 to R114), the acceptance (R110), the hold (R111), the STATUS read
while BUSY = 1 (R112), the buffer effects (R118) and the illegal word (R119).
-/

namespace Sys2Proof.Machine

open Sys2Proof

/-! ### What a step runs -/

theorem step_of_fetch_command {s s' : State} (h : s.fetch = .command s') : step s = exec (decodeCommand s'.pend) s' := by
  rw [step, h]

theorem step_of_fetch_access {s s' : State} {a : Access} (h : s.fetch = .access a s') :
    step s = exec (decodeAccess a) s' := by
  rw [step, h]

/-- While BUSY = 1 and no outside event can come first, the engine completes (40_command_lifecycle.md R113). -/
theorem step_of_uncontested {s : State} (hbusy : s.busy = true) (hc : s.contested = false) :
    step s = exec (decodeCommand s.pend) s :=
  step_of_fetch_command (by simp [State.fetch, hbusy, hc])

/-- While BUSY = 0 the held access is performed first (40_command_lifecycle.md R111). -/
theorem step_of_held {s : State} {a : Access} (hidle : s.busy = false) (hheld : s.held = some a) :
    step s = exec (decodeAccess a) { s with held := none } :=
  step_of_fetch_access (by simp [State.fetch, hidle, hheld])

theorem fetch_of_idle {s : State} (hidle : s.busy = false) (hheld : s.held = none) : s.fetch = s.fromOutside := by
  simp [State.fetch, hidle, hheld]

/-- Settles O9: a contested state fetches the completion or the outside event, and every other state has one next event. -/
theorem stepRunsNextEvent : Obligations.StepRunsNextEvent := by
  refine ⟨fun s => step_of_uncontested, fun s a es hbusy hheld hev => ?_, fun s a => step_of_held,
    fun s a es hidle hheld hev => ?_, fun s hidle hheld hev => ?_⟩
  · have hc : s.contested = true := by simp [State.contested, hheld, hev]
    cases hfirst : Config.engineFirst s.draws with
    | true => exact .inl (step_of_fetch_command (s' := s.drawn) (by simp [State.fetch, hbusy, hc, hfirst]))
    | false =>
      refine .inr (step_of_fetch_access ?_)
      simp [State.fetch, hbusy, hc, hfirst, State.fromOutside, State.drawn, hev]
  · refine step_of_fetch_access ((fetch_of_idle hidle hheld).trans ?_)
    simp [State.fromOutside, hev]
  · rw [step, fetch_of_idle hidle hheld, State.fromOutside, hev]

/-- Settles O10: the bits are an access's or a command word's, and either one placed is fetched next. -/
theorem placedWordRunsNext : Obligations.PlacedWordRunsNext := by
  intro s nbits w
  refine ⟨_, rfl, ?_⟩
  by_cases hreg : nbits ≤ 8
  · rw [State.withFetchWord, tableEncoded, if_pos hreg, if_pos hreg]
    exact step_of_fetch_access (fetch_placeAccess s _)
  · rw [State.withFetchWord, tableEncoded, if_neg hreg, if_neg hreg]
    exact step_of_fetch_command (fetch_placeCommand s _)

/-! ### Acceptance and hold -/

/-- A CMD write while BUSY = 0 is the acceptance (40_command_lifecycle.md R110). -/
theorem exec_wrCmd_of_idle {s : State} (w : Word) (hidle : s.busy = false) :
    exec (.wrCmd w) s = .next ((s.accept w).respond .done) :=
  hostAccess_idle hidle

/-- Settles O12: the access is performed at once, and its effect is the acceptance. -/
theorem writeCmdAccepts : Obligations.WriteCmdAccepts :=
  fun _ w hidle => exec_wrCmd_of_idle w hidle

/-- While BUSY = 1 a legal access other than a STATUS read is held (40_command_lifecycle.md R111). -/
theorem exec_access_of_busy {s : State} {i : Instr} {a : Access} (hbusy : s.busy = true) (enc : encode i = .access a)
    (notStatus : i ≠ .rdStatus) (legal : ∀ b, i ≠ .busError b) : exec i s = .next (s.hold a) := by
  cases i with
  | build | encode | decode | readFreq _ | readCode _ | illegal _ _ _ _ => cases enc
  | rdStatus => exact absurd rfl notStatus
  | busError b => exact absurd rfl (legal b)
  | rdWriteOnly reg => cases reg <;> cases enc <;> exact hostAccess_busy hbusy
  | _ => cases enc; exact hostAccess_busy hbusy

/-- While an access is held only a reset can come before the completion (40_command_lifecycle.md R111). -/
theorem not_contested_of_held {s : State} {a : Access} (hheld : s.held = some a) (hev : ∀ es, s.events ≠ .reset :: es) :
    s.contested = false := by
  rw [State.contested, hheld]
  rcases hs : s.events with _ | ⟨_ | _, es⟩
  · rfl
  · rfl
  · exact absurd hs (hev es)

/-- Settles O11: the hold, the completion that nothing comes before, and the held access performed after it. -/
theorem accessHeldUntilCompletion : Obligations.AccessHeldUntilCompletion :=
  ⟨fun _ _ _ hbusy _ enc notStatus legal => exec_access_of_busy hbusy enc notStatus legal,
    fun _ _ hbusy hheld hev => step_of_uncontested hbusy (not_contested_of_held hheld hev),
    fun _ _ => step_of_held, fun s _ => ⟨s.reportBusError, rfl, rfl⟩⟩

/-! ### STATUS while BUSY = 1 -/

/-- BUSY is bit 0 of STATUS (10_state.md R23). -/
theorem State.status_getLsbD_zero (s : State) : s.status.getLsbD 0 = s.busy := by
  have hsum := s.toNat_status
  have hbusy := s.busy.toNat_lt
  exact getLsbD_of_div_mod (by omega)

/-- Setting BUSY sets bit 0 of STATUS and leaves the other bits (10_state.md R23). -/
theorem State.status_accept (s : State) (w : Word) : (s.accept w).status = s.status ||| 0x00000001#32 := by
  have hone : 0x00000001#32 = 0#31 ++ 1#1 := rfl
  have hbit : BitVec.ofBool s.busy ||| 1#1 = 1#1 := by cases s.busy <;> rfl
  rw [State.status, State.status, hone, BitVec.or_append, BitVec.or_zero, hbit]
  rfl

/-- While BUSY = 1 an access is held, or it is a STATUS read or a bus error: none of them changes STATUS. -/
theorem status_eq_of_exec_access_of_busy {s t : State} {i : Instr} {a : Access} (hbusy : s.busy = true)
    (enc : encode i = .access a) (h : exec i s = .next t) : t.status = s.status := by
  by_cases hstatus : i = .rdStatus
  · subst hstatus; cases h; rfl
  by_cases hbus : ∃ b, i = .busError b
  · obtain ⟨b, rfl⟩ := hbus; cases h; rfl
  cases (exec_access_of_busy hbusy enc hstatus (by simpa using hbus)).symm.trans h
  rfl

/-- Settles O13: the acceptance sets bit 0 of STATUS alone, and the read answers STATUS whatever BUSY is. -/
theorem statusReadServedWhileBusy : Obligations.StatusReadServedWhileBusy := by
  refine ⟨fun s w hidle => ⟨_, _, exec_wrCmd_of_idle w hidle, rfl, rfl, ?_⟩,
    fun s hbusy => ⟨rfl, s.status_getLsbD_zero.trans hbusy⟩, fun _ _ _ _ => status_eq_of_exec_access_of_busy⟩
  rw [← s.status_accept w]
  rfl

/-! ### Completions -/

/-- A completed ENCODE or DECODE has emptied IBUF and cleared IN_OVF, and after an error OBUF is empty (40_command_lifecycle.md R118). -/
theorem State.dataComplete_buffers (s : State) (r : OpResult (List Byte)) :
    (s.dataComplete r).ibuf = [] ∧ (s.dataComplete r).inOvf = false ∧
      ((s.dataComplete r).err ≠ .ok → (s.dataComplete r).obuf = []) := by
  cases r with
  | success out => exact ⟨rfl, rfl, fun herr => absurd rfl herr⟩
  | raised e d index result => exact ⟨rfl, rfl, fun _ => rfl⟩

/-- Every completion of a BUILD has emptied both buffers and cleared IN_OVF (40_command_lifecycle.md R118). -/
theorem execBuild_buffers {s t : State} (h : execBuild s = .next t) : t.ibuf = [] ∧ t.inOvf = false ∧ t.obuf = [] := by
  obtain ⟨-, rfl⟩ | ⟨-, -, rfl⟩ | ⟨-, -, rfl⟩ := execBuild_cases h <;> exact ⟨rfl, rfl, rfl⟩

/-- Settles O50: each row of the table of 40_command_lifecycle.md R118, from what the command's completion writes. -/
theorem bufferEffectsOfCommands : Obligations.BufferEffectsOfCommands := by
  intro s t
  refine ⟨execBuild_buffers, fun h => ?_, fun h => ?_, fun v h => ?_, fun v h => ?_, fun op r0 v r1 h => ?_⟩
  · cases h; exact s.dataComplete_buffers _
  · obtain ⟨r, -, rfl⟩ := execDecode_next h; exact s.dataComplete_buffers r
  · cases h; exact ⟨rfl, rfl, rfl⟩
  · cases h; exact ⟨rfl, rfl⟩
  · cases h; exact ⟨rfl, rfl, rfl⟩

/-- Settles O23: the completion of an illegal word, with the values drawn for PEND and the counter. -/
theorem illegalWordRecordsOnly : Obligations.IllegalWordRecordsOnly :=
  fun s op rsv0 sym rsv1 _ => ⟨_, _, exec_illegal op rsv0 sym rsv1 s⟩

end Sys2Proof.Machine

/-!
Progress (40_command_lifecycle.md R113, R123): DECODE stays inside the tree of the last BUILD (10_state.md R39, R43), so a step always answers a
next state, and every step that is not idle brings the end of the run nearer.
-/

namespace Sys2Proof.Machine

open Sys2Proof

/-! ### The symbols counted -/

/-- An entry of FREQ' is the number of occurrences, as a 32-bit word (41_build.md R132). -/
theorem entry_foldl_bump (u : List Byte) (f : Vector Word 256) (v : Byte) :
    entry (u.foldl bump f) v = entry f v + BitVec.ofNat 32 (u.count v) := by
  induction u generalizing f with
  | nil => simp
  | cons x xs ih =>
    rw [List.foldl_cons, ih]
    by_cases hx : v = x
    · subst hx
      rw [bump, entry_setEntry_same, List.count_cons_self, BitVec.ofNat_add, BitVec.add_assoc,
        BitVec.add_comm (BitVec.ofNat 32 _)]
      rfl
    · rw [entry_bump_ne f hx, List.count_cons_of_ne (Ne.symm hx)]

theorem entry_count (u : List Byte) (v : Byte) : entry (count u) v = BitVec.ofNat 32 (u.count v) := by
  rw [count, entry_foldl_bump, entry_replicate]
  exact BitVec.zero_add _

theorem mem_symbolsDown (v : Byte) : v ∈ symbolsDown :=
  List.mem_map.mpr ⟨v.toNat, List.mem_reverse.mpr (List.mem_range.mpr v.isLt),
    BitVec.eq_of_toNat_eq (Nat.mod_eq_of_lt v.isLt)⟩

/-- The distinct symbols are those of the input, whose counts do not wrap (41_build.md R134). -/
theorem mem_distinct_count_iff {u : List Byte} {v : Byte} (hu : u.length < 2 ^ 32) : v ∈ distinct (count u) ↔ v ∈ u := by
  have hle : u.count v ≤ u.length := List.count_le_length
  have hzero : entry (count u) v = 0#32 ↔ u.count v = 0 := by
    rw [entry_count, ← BitVec.toNat_inj, BitVec.toNat_ofNat, Nat.mod_eq_of_lt (hle.trans_lt hu)]
    rfl
  simp [distinct, mem_symbolsDown, hzero, List.count_eq_zero]

theorem length_distinct_count_pos {u : List Byte} (hne : u ≠ []) (hu : u.length < 2 ^ 32) :
    0 < (distinct (count u)).length := by
  obtain ⟨v, hv⟩ := List.exists_mem_of_ne_nil u hne
  exact List.length_pos_of_mem ((mem_distinct_count_iff hu).mpr hv)

/-! ### The root of the tree -/

theorem mergeInv_leaves (f : Vector Word 256) :
    MergeInv (distinct f).length (leaves f) (List.range (leaves f).length) :=
  ⟨indexOrdered_leaves _ f, fun a ha => List.mem_range.mp ha, by simp; omega, by simp, by simp; omega⟩

theorem root_mergedTree_lt {f : Vector Word 256} (hf : 0 < (distinct f).length) :
    (mergedTree (leaves f)).root < (mergedTree (leaves f)).nodes.length := by
  obtain ⟨-, hlt, -, hle, -⟩ := mergeLoop_keeps_mergeInv (leaves f).length (mergeInv_leaves f)
  simp only [mergedTree]
  cases hq : (mergeLoop (leaves f).length (leaves f) (List.range (leaves f).length)).2 with
  | nil => exact hf.trans_le hle
  | cons a q => exact hlt a (hq ▸ List.mem_cons_self)

/-- The root of the tree of a symbol or more is a node of it. -/
theorem root_tree_lt {f : Vector Word 256} (hf : 0 < (distinct f).length) : (tree f).root < (tree f).nodes.length := by
  unfold tree
  split
  next => exact Nat.one_lt_two
  next => exact root_mergedTree_lt hf

/-! ### DECODE inside the tree -/

/-- The entries of NODE below `k` are a part of the arena that a walk from the root does not leave. -/
structure State.WalkStaysBelow (s : State) (k : Nat) : Prop where
  arena : k ≤ Config.nodeMax
  root_lt : s.root.toNat < k
  child_lt : ∀ {i c : BitVec 9} {n : NodeRec} {m : Marker}, i.toNat < k → s.nodeAt i = some n → n.child m = some c →
    c.toNat < k

theorem State.WalkStaysBelow.nodeAt_eq_some {s : State} {k : Nat} (h : s.WalkStaysBelow k) {i : BitVec 9}
    (hi : i.toNat < k) : ∃ n, s.nodeAt i = some n :=
  ⟨_, Vector.getElem?_eq_getElem (hi.trans_le h.arena)⟩

theorem State.WalkStaysBelow.decodeWalk_ne_none {s : State} {k : Nat} (h : s.WalkStaysBelow k) (i : Nat) {cur : BitVec 9}
    (hcur : cur.toNat < k) (out us : List Byte) : decodeWalk s i cur out us ≠ none := by
  induction us generalizing i cur out with
  | nil => rw [decodeWalk]; split <;> nofun
  | cons u us ih =>
    obtain ⟨n, hn⟩ := h.nodeAt_eq_some hcur
    rw [decodeWalk, hn]
    cases Marker.ofUnit u with
    | none => nofun
    | some m =>
      cases hc : n.child m with
      | none => simp [hc]
      | some t =>
        have ht := h.child_lt hcur hn hc
        obtain ⟨r, hr⟩ := h.nodeAt_eq_some ht
        simp only [hc, hr]
        split
        · exact ih _ h.root_lt _
        · exact ih _ ht _

/-- The tree of a BUILD is such a part (10_state.md R39, R43). -/
theorem BuiltFrom.walkStaysBelow {s : State} {u : List Byte} (hb : BuiltFrom s u) (hwf : s.cfg.WellFormed) :
    s.WalkStaysBelow (tree (count u)).nodes.length where
  arena := length_tree_nodes_le _
  root_lt := by
    have hu : u.length < 2 ^ 32 := by
      have := hb.fits
      omega
    rw [hb.root]
    exact (Nat.mod_le _ _).trans_lt (root_tree_lt (length_distinct_count_pos hb.nonempty hu))
  child_lt hi hn hc :=
    ((treeShape_tree (count u)).ordered.child_lt ((hb.nodes _ hi).symm.trans hn) hc).trans hi

theorem decodeRule_ne_none {s : State} (hs : Inv s) : decodeRule s ≠ none := by
  unfold decodeRule
  split_ifs with hbuilt
  · nofun
  · nofun
  · obtain ⟨u, hu⟩ := hs.tables.built (by simpa using hbuilt)
    have hwalk := hu.walkStaysBelow hs.buffers.1
    exact hwalk.decodeWalk_ne_none 0 hwalk.root_lt [] s.ibuf

/-! ### Every instruction and every step answers -/

/-- From a state that meets the invariant every instruction answers a next state. -/
theorem exists_exec_next {s : State} (hs : Inv s) (i : Instr) : ∃ t, exec i s = .next t := by
  cases i with
  | decode =>
    obtain ⟨r, hr⟩ := Option.ne_none_iff_exists'.mp (decodeRule_ne_none hs)
    exact ⟨s.dataComplete r, by simp [exec, execDecode, hr]⟩
  | _ => exact ⟨_, rfl⟩

theorem exists_step_next {s : State} (hs : Inv s) : ∃ t, step s = .next t := by
  cases hf : s.fetch with
  | idle => exact ⟨s, by rw [step, hf]⟩
  | command s' => rw [step_of_fetch_command hf]; exact exists_exec_next (fetch_start_inv hs (by rw [hf]; rfl)) _
  | access a s' => rw [step_of_fetch_access hf]; exact exists_exec_next (fetch_start_inv hs (by rw [hf]; rfl)) _
  | reset s' => exact ⟨s'.takeReset, by rw [step, hf]⟩

/-- Settles O55: only DECODE can stop, and the walk of one that starts in a tree of BUILD never reaches a missing entry. -/
theorem invariantStepsNeverStop : Obligations.InvariantStepsNeverStop :=
  fun _ => exists_step_next

/-! ### How much is left of a run -/

/-- A bound on the steps to the end of a run: an event can hold an access or be a command's acceptance, and either is done with later. -/
def State.pending (s : State) : Nat := 3 * s.events.length + 2 * s.held.toList.length + s.busy.toNat

theorem fromOutside_start_pending {s s' : State} (h : s.fromOutside.start? = some s') :
    s.pending = s'.pending + 3 := by
  obtain ⟨-, hf⟩ | ⟨a, es, he, hf⟩ | ⟨es, he, hf⟩ := fromOutside_cases s <;> rw [hf] at h <;> cases h
  all_goals simp only [State.pending, he, List.length_cons]; omega

theorem events_of_fromOutside_idle {s : State} (h : s.fromOutside = .idle) : s.events = [] := by
  obtain ⟨he, -⟩ | ⟨a, es, -, hf⟩ | ⟨es, -, hf⟩ := fromOutside_cases s
  · exact he
  · cases hf.symm.trans h
  · cases hf.symm.trans h

/-- There is nothing to do only at the end of the run (40_command_lifecycle.md R113, R123). -/
theorem runEnded_of_fetch_idle {s : State} (h : s.fetch = .idle) : RunEnded s := by
  obtain ⟨-, -, hf⟩ | ⟨-, -, hf⟩ | ⟨-, hc, hf⟩ | ⟨-, a, -, hf⟩ | ⟨hidle, hheld, hf⟩ := fetch_cases s <;> rw [hf] at h
  · cases h
  · cases h
  · have he : s.events = [] := events_of_fromOutside_idle (s := s.drawn) h
    simp [State.contested, he] at hc
  · cases h
  · exact ⟨events_of_fromOutside_idle h, hheld, hidle⟩

theorem fetch_command_pending {s s' : State} (h : s.fetch = .command s') : s'.busy = true ∧ s'.pending = s.pending := by
  obtain ⟨hb, -, hf⟩ | ⟨hb, -, hf⟩ | ⟨-, -, hf⟩ | ⟨-, a, -, hf⟩ | ⟨-, -, hf⟩ := fetch_cases s <;> rw [hf] at h
  · cases h; exact ⟨hb, rfl⟩
  · cases h; exact ⟨hb, rfl⟩
  · exact absurd h (fromOutside_ne_command _ _)
  · cases h
  · exact absurd h (fromOutside_ne_command _ _)

/-- An access fetched leaves room for what it can add: a held access while BUSY = 1, a command while BUSY = 0. -/
theorem fetch_access_pending {s s' : State} {a : Access} (h : s.fetch = .access a s') :
    s'.pending + 1 + s'.busy.toNat < s.pending := by
  have hout : ∀ {r : State}, r.fromOutside = .access a s' → s'.pending + 1 + s'.busy.toNat < r.pending := by
    intro r hr
    have hp := fromOutside_start_pending (s' := s') (by rw [hr]; rfl)
    have := s'.busy.toNat_lt
    omega
  obtain ⟨-, -, hf⟩ | ⟨-, -, hf⟩ | ⟨-, -, hf⟩ | ⟨hidle, b, hb, hf⟩ | ⟨-, -, hf⟩ := fetch_cases s <;> rw [hf] at h
  · cases h
  · cases h
  · exact hout (r := s.drawn) h
  · cases h
    simp [State.pending, hidle, hb]
  · exact hout h

theorem fetch_reset_pending {s s' : State} (h : s.fetch = .reset s') : s'.pending < s.pending := by
  have hout : ∀ {r : State}, r.fromOutside = .reset s' → s'.pending < r.pending := by
    intro r hr
    have hp := fromOutside_start_pending (s' := s') (by rw [hr]; rfl)
    omega
  obtain ⟨-, -, hf⟩ | ⟨-, -, hf⟩ | ⟨-, -, hf⟩ | ⟨-, b, -, hf⟩ | ⟨-, -, hf⟩ := fetch_cases s <;> rw [hf] at h
  · cases h
  · cases h
  · exact hout (r := s.drawn) h
  · cases h
  · exact hout h

/-- A completion ends the command (40_command_lifecycle.md R115). -/
theorem Effect.command_clears_busy {s t : State} {i : Instr} {w : Word} (h : Effect s i t) (hi : encode i = .command w) :
    t.busy = false := by
  cases h with
  | held _ enc | answered enc | ignored enc => cases enc.symm.trans hi
  | busError | accepted | pushed | popped => cases hi
  | _ => rfl

theorem Effect.command_pending {s t : State} {i : Instr} {w : Word} (h : Effect s i t) (hi : encode i = .command w) :
    t.pending + s.busy.toNat = s.pending := by
  obtain ⟨-, hheld, hev⟩ := h.command_keeps_host hi
  simp [State.pending, h.command_clears_busy hi, hheld, hev]

/-- An access adds at most itself, held, while BUSY = 1, and at most a command while BUSY = 0. -/
theorem Effect.access_pending_le {s t : State} {i : Instr} {a : Access} (h : Effect s i t) (hi : encode i = .access a)
    (hheld : s.held = none) : t.pending ≤ s.pending + 1 + s.busy.toNat := by
  cases h with
  | held hbusy => simp [State.pending, hheld, hbusy]
  | accepted w => have := s.busy.toNat_lt; simp [State.pending]; omega
  | pushed w => simp [State.pending]; omega
  | answered | ignored | busError | popped => simp [State.pending]; omega
  | built | encoded | decoded | freqRead | codeRead | illegal => cases hi
  | failed hdata => obtain rfl | rfl | rfl := hdata <;> cases hi

theorem takeReset_pending_le (s : State) : s.takeReset.pending ≤ s.pending := by
  simp [State.pending]; omega

/-- Every step brings the end of the run nearer, unless it is reached. -/
theorem step_pending_lt {s t : State} (h : step s = .next t) (hrun : ¬RunEnded s) : t.pending < s.pending := by
  obtain ⟨hf, -⟩ | ⟨s', hf, hx⟩ | ⟨a, s', hf, hx⟩ | ⟨s', hf, rfl⟩ := step_cases h
  · exact absurd (runEnded_of_fetch_idle hf) hrun
  · obtain ⟨w, hw⟩ := encode_decodeCommand s'.pend
    obtain ⟨hbusy, hp⟩ := fetch_command_pending hf
    have hlt := (exec_effect hx).command_pending hw
    rw [hbusy, Bool.toNat_true] at hlt
    omega
  · obtain ⟨b, hb⟩ := encode_decodeAccess a
    exact ((exec_effect hx).access_pending_le hb (fetch_access_unanswered hf).1).trans_lt (fetch_access_pending hf)
  · exact (takeReset_pending_le s').trans_lt (fetch_reset_pending hf)

/-! ### The end of a run -/

theorem run_succ_of_step {M : Host.Core} {s t : M.State} (k : Nat) (h : M.step s = .next t) :
    M.run (k + 1) s = M.run k t := by
  rw [Host.Core.run, h]

/-- A run from a state that meets the invariant ends within the steps that are pending. -/
theorem exists_run_runEnded {s : State} (hs : Inv s) : ∃ k t, k ≤ s.pending ∧ core.run k s = .next t ∧ RunEnded t := by
  induction hp : s.pending using Nat.strong_induction_on generalizing s with
  | h n ih =>
    by_cases hrun : RunEnded s
    · exact ⟨0, s, Nat.zero_le _, rfl, hrun⟩
    obtain ⟨t, ht⟩ := exists_step_next hs
    have hlt : t.pending < n := hp ▸ step_pending_lt ht hrun
    obtain ⟨k, r, hk, hr, hend⟩ := ih t.pending hlt (step_keeps_inv hs ht) rfl
    exact ⟨k + 1, r, hk.trans_lt hlt, (run_succ_of_step (M := core) k ht).trans hr, hend⟩

theorem pending_le (s : State) : s.pending ≤ 3 * s.events.length + 3 := by
  have hheld : s.held.toList.length ≤ 1 := Option.length_toList_le
  have hbusy := s.busy.toNat_lt
  rw [State.pending]
  omega

/-- Settles O56: every step answers, keeps the invariant and lowers what is pending, until the run has ended. -/
theorem everyRunEnds : Obligations.EveryRunEnds := by
  intro s hs
  obtain ⟨k, t, hk, hrun⟩ := exists_run_runEnded hs
  exact ⟨k, t, hk.trans (pending_le s), hrun⟩

end Sys2Proof.Machine

/-!
BUILD as a command: its two errors and its commit (41_build.md R131, R144, R146), the exact counts (R132), and the tables as a function of the
input alone (R145).
-/

namespace Sys2Proof.Machine

open Sys2Proof

/-! ### The exact counts -/

/-- A sum over the units of an input, gathered by symbol. -/
theorem sum_map_count_mul {u vs : List Byte} (hvs : vs.Nodup) (hsub : ∀ v ∈ u, v ∈ vs) (h : Byte → ℕ) :
    (vs.map fun v => u.count v * h v).sum = (u.map h).sum := by
  have hu : u.toFinset ⊆ vs.toFinset := fun v hv => by simpa using hsub v (by simpa using hv)
  rw [← List.sum_toFinset _ hvs, Finset.sum_list_map_count u]
  exact (Finset.sum_subset hu fun v _ hv => by simp [List.count_eq_zero.mpr (by simpa using hv)]).symm

theorem sum_map_count {u vs : List Byte} (hvs : vs.Nodup) (hsub : ∀ v ∈ u, v ∈ vs) : (vs.map u.count).sum = u.length := by
  simpa using sum_map_count_mul hvs hsub fun _ => 1

/-- No count of an input that fits wraps (41_build.md R132; 00_scope.md R8). -/
theorem toNat_entry_count {u : List Byte} (hu : u.length < 2 ^ 32) (v : Byte) : (entry (count u) v).toNat = u.count v := by
  rw [entry_count, BitVec.toNat_ofNat, Nat.mod_eq_of_lt (List.count_le_length.trans_lt hu)]

theorem toList_eq_map_entry {α : Type} (t : Vector α 256) : t.toList = symbolsDown.reverse.map (entry t) := by
  apply List.ext_getElem
  · simp [symbolsDown]
  · intro i h _
    have hi : i < 256 := by simpa using h
    simp [symbolsDown, entry, Nat.mod_eq_of_lt hi]

theorem sum_toList_count {u : List Byte} (hu : u.length < 2 ^ 32) : ((count u).toList.map BitVec.toNat).sum = u.length := by
  have hcount : BitVec.toNat ∘ entry (count u) = u.count := funext (toNat_entry_count hu)
  rw [toList_eq_map_entry, List.map_map, hcount, List.map_reverse, List.sum_reverse]
  exact sum_map_count nodup_symbolsDown fun v _ => mem_symbolsDown v

theorem sum_map_count_distinct {u : List Byte} (hu : u.length < 2 ^ 32) : ((distinct (count u)).map u.count).sum = u.length :=
  sum_map_count (nodup_distinct _) fun _ hv => (mem_distinct_count_iff hu).mpr hv

/-! ### The number of distinct symbols -/

theorem distinct_count_perm_dedup {u : List Byte} (hu : u.length < 2 ^ 32) : (distinct (count u)).Perm u.dedup :=
  (List.perm_ext_iff_of_nodup (nodup_distinct _) u.nodup_dedup).mpr fun v => by rw [mem_distinct_count_iff hu, List.mem_dedup]

theorem length_distinct_count {u : List Byte} (hu : u.length < 2 ^ 32) : (distinct (count u)).length = u.dedup.length :=
  (distinct_count_perm_dedup hu).length_eq

/-! ### The command -/

theorem exec_build_of_ovf {s : State} (ho : s.inOvf = true) :
    exec .build s = .next (s.dataError .capacityExceeded .inOverflow s.cfg.ibufDepth 0) := by
  simp [exec, execBuild, ho]

theorem exec_build_of_empty {s : State} (ho : s.inOvf = false) (hi : s.ibuf = []) :
    exec .build s = .next (s.dataError .invalidInput .none 0 0) := by
  simp [exec, execBuild, ho, hi]

theorem exec_build_of_nonempty {s : State} (ho : s.inOvf = false) (hi : s.ibuf ≠ []) :
    exec .build s = .next (s.buildCommit s.ibuf) := by
  simp [exec, execBuild, ho, hi]

/-- Settles O25: IN_OVF is tested before the empty input, and either error completes with its record and no table written. -/
theorem failedBuildKeepsTables : Obligations.FailedBuildKeepsTables :=
  fun _ => ⟨fun ho => ⟨_, _, exec_build_of_ovf ho⟩, fun ho hi => ⟨_, _, exec_build_of_empty ho hi⟩,
    fun ho hi => ⟨_, exec_build_of_nonempty ho hi, rfl⟩⟩

/-- Settles O32: the commit, whose tables are those of the input. -/
theorem buildCommitsTables : Obligations.BuildCommitsTables := by
  intro s ho hi hfits hwf
  have hb := builtFrom_buildCommit hi hfits
  have hn : distinctCount s.ibuf = s.ibuf.dedup.length := length_distinct_count (by omega)
  rw [exec_build_of_nonempty ho hi, ← hn]
  exact ⟨_, _, _, _, _, _, _, rfl, hi, hfits, hb.freq, hb.nodes, hb.nodeCount, hb.root, hb.code⟩

/-- Settles O33: the scan counts each symbol, and no count wraps. -/
theorem buildCountsExactly : Obligations.BuildCountsExactly := by
  intro s ho hi hfits hwf
  have hlt : s.ibuf.length < 2 ^ 32 := by omega
  exact ⟨_, exec_build_of_nonempty ho hi, toNat_entry_count hlt, sum_toList_count hlt⟩

/-! ### The tables as a function of the input -/

theorem toNat_nodeCount_buildCommit (s : State) (u : List Byte) :
    (s.buildCommit u).nodeCount.toNat = (tree (count u)).nodes.length := by
  have := length_tree_nodes_le (count u)
  exact Nat.mod_eq_of_lt (by simp only [Config.nodeMax] at this; omega)

theorem getElem?_node_buildCommit (s : State) {u : List Byte} {i : Nat} (hi : i < (tree (count u)).nodes.length) :
    (s.buildCommit u).node[i]? = (tree (count u)).nodes[i]? :=
  getElem?_committedNode s.draws hi (length_tree_nodes_le _)

/-- Settles O48: a commit writes the tables of its input, below NODE_COUNT, whatever the state held. -/
theorem rebuildIsIsolated : Obligations.RebuildIsIsolated := by
  intro s s' t t' hib hne ho ho' ht ht'
  rw [exec_build_of_nonempty ho hne] at ht
  rw [exec_build_of_nonempty ho' (hib ▸ hne), ← hib] at ht'
  cases ht
  cases ht'
  refine ⟨rfl, rfl, rfl, rfl, fun i hi => ?_⟩
  rw [toNat_nodeCount_buildCommit] at hi
  rw [getElem?_node_buildCommit s hi, getElem?_node_buildCommit s' hi]

end Sys2Proof.Machine

/-!
The merge loop: the two least keys that a step takes, the nodes still in Q, and the one parent of every other node (41_build.md R134 to R139).
-/

namespace Sys2Proof.Machine

open Sys2Proof

/-! ### The key order (41_build.md R135) -/

theorem keyLt_iff {nodes : List NodeRec} {a b : Nat} : keyLt nodes a b = true ↔
    (freqAt nodes a).toNat < (freqAt nodes b).toNat ∨ (freqAt nodes a).toNat = (freqAt nodes b).toNat ∧ a < b := by
  simp [keyLt, BitVec.lt_def, BitVec.toNat_inj]

/-- Keys are unique: of two nodes one has the lesser key. -/
theorem keyLt_of_not_keyLt {nodes : List NodeRec} {a b : Nat} (h : ¬keyLt nodes b a = true) (hne : a ≠ b) :
    keyLt nodes a b = true := by
  rw [keyLt_iff] at *
  omega

theorem not_keyLt_trans {nodes : List NodeRec} {a b c : Nat} (hab : ¬keyLt nodes a b = true) (hbc : ¬keyLt nodes b c = true) :
    ¬keyLt nodes a c = true := by
  rw [keyLt_iff] at *
  omega

theorem not_keyLt_lesser (nodes : List NodeRec) (y best : Nat) :
    ¬keyLt nodes best (if keyLt nodes y best then y else best) = true ∧
      ¬keyLt nodes y (if keyLt nodes y best then y else best) = true := by
  split_ifs with h <;> simp only [keyLt_iff] at * <;> omega

theorem not_keyLt_leastKey {nodes : List NodeRec} {best x : Nat} {q : List Nat} (hx : x ∈ best :: q) :
    ¬keyLt nodes x (leastKey nodes best q) = true := by
  induction q generalizing best x with
  | nil =>
    obtain rfl := List.mem_singleton.mp hx
    simp [leastKey, keyLt_iff]
  | cons y ys ih =>
    rw [leastKey]
    obtain ⟨hbest, hy⟩ := not_keyLt_lesser nodes y best
    have hhead := ih (best := if keyLt nodes y best then y else best) List.mem_cons_self
    obtain rfl | hx := List.mem_cons.mp hx
    · exact not_keyLt_trans hbest hhead
    obtain rfl | hx := List.mem_cons.mp hx
    · exact not_keyLt_trans hy hhead
    · exact ih (List.mem_cons_of_mem _ hx)

/-! ### One merge step (41_build.md R136) -/

/-- The parent that a merge step makes of the nodes `a` and `b`. -/
def mergedNode (nodes : List NodeRec) (a b : Nat) : NodeRec :=
  NodeRec.internal (freqAt nodes a + freqAt nodes b) (some (BitVec.ofNat 9 a)) (some (BitVec.ofNat 9 b))

/-- `a` has the least key in Q, and `b` the least of the others. -/
structure Takes (nodes : List NodeRec) (q : List Nat) (a b : Nat) : Prop where
  left_mem : a ∈ q
  right_mem : b ∈ q.erase a
  left_least : ∀ x ∈ q, ¬keyLt nodes x a = true
  right_least : ∀ x ∈ q.erase a, ¬keyLt nodes x b = true

theorem extractMin_least {nodes : List NodeRec} {q q' : List Nat} {a : Nat} (h : extractMin nodes q = some (a, q')) :
    ∀ x ∈ q, ¬keyLt nodes x a = true := by
  cases q with
  | nil => cases h
  | cons y ys =>
    cases h
    exact fun _ => not_keyLt_leastKey

/-- A merge step appends the parent of the two nodes of least key, and puts it in Q for them. -/
theorem mergeStep_takes {nodes nodes' : List NodeRec} {q q' : List Nat} (h : mergeStep nodes q = some (nodes', q')) :
    ∃ a b, Takes nodes q a b ∧ nodes' = nodes ++ [mergedNode nodes a b] ∧
      q' = (q.erase a).erase b ++ [nodes.length] := by
  unfold mergeStep at h
  split at h
  · cases h
  next a q1 h1 =>
    split at h
    · cases h
    next b q2 h2 =>
      cases h
      obtain ⟨ha, rfl⟩ := extractMin_some h1
      obtain ⟨hb, rfl⟩ := extractMin_some h2
      exact ⟨a, b, ⟨ha, hb, extractMin_least h1, extractMin_least h2⟩, rfl, rfl⟩

/-- No merge step is left when Q has one node or none. -/
theorem length_le_one_of_mergeStep_eq_none {nodes : List NodeRec} {q : List Nat} (h : mergeStep nodes q = none) :
    q.length ≤ 1 := by
  unfold mergeStep at h
  split at h
  next h1 => simp [extractMin_eq_none.mp h1]
  next a q1 h1 =>
    split at h
    next h2 =>
      obtain ⟨ha, rfl⟩ := extractMin_some h1
      have := List.length_erase_add_one ha
      simp_all [extractMin_eq_none.mp h2]
    · cases h

theorem Takes.perm {nodes : List NodeRec} {q : List Nat} {a b : Nat} (h : Takes nodes q a b) :
    q.Perm (a :: b :: (q.erase a).erase b) :=
  (List.perm_cons_erase h.left_mem).trans ((List.perm_cons_erase h.right_mem).cons a)

theorem Takes.ne {nodes : List NodeRec} {q : List Nat} {a b : Nat} (h : Takes nodes q a b) (hq : q.Nodup) : a ≠ b := by
  rintro rfl
  exact hq.not_mem_erase h.right_mem

/-! ### The merge loop (41_build.md R137) -/

/-- What every merge step keeps, the loop keeps. -/
theorem mergeLoop_keeps {P : List NodeRec → List Nat → Prop}
    (hstep : ∀ {nodes nodes' q q'}, P nodes q → mergeStep nodes q = some (nodes', q') → P nodes' q') (fuel : Nat)
    {nodes : List NodeRec} {q : List Nat} (h : P nodes q) : P (mergeLoop fuel nodes q).1 (mergeLoop fuel nodes q).2 := by
  induction fuel generalizing nodes q with
  | zero => exact h
  | succ fuel ih =>
    rw [mergeLoop]
    split
    · exact h
    · exact ih (hstep h ‹_›)

theorem length_mergeLoop_queue_le (fuel : Nat) {nodes : List NodeRec} {q : List Nat} (h : q.length ≤ fuel + 1) :
    (mergeLoop fuel nodes q).2.length ≤ 1 := by
  induction fuel generalizing nodes q with
  | zero => exact h
  | succ fuel ih =>
    rw [mergeLoop]
    split
    next hs => exact length_le_one_of_mergeStep_eq_none hs
    next hs =>
      obtain ⟨a, b, ht, -, rfl⟩ := mergeStep_takes hs
      have := ht.perm.length_eq
      apply ih
      simp only [List.length_append, List.length_cons, List.length_nil] at this ⊢
      omega

theorem tree_eq_mergedTree {f : Vector Word 256} (hn : 2 ≤ (distinct f).length) : tree f = mergedTree (leaves f) := by
  unfold tree
  split
  next l hl =>
    have := length_leaves f
    simp [hl] at this
    omega
  next => rfl

/-- What the leaves and Q = {0, ..., n-1} meet and every merge step keeps, the tree meets with Q = {ROOT}. -/
theorem tree_meets {f : Vector Word 256} {P : List NodeRec → List Nat → Prop} (hn : 2 ≤ (distinct f).length)
    (hstep : ∀ {nodes nodes' q q'}, P nodes q → mergeStep nodes q = some (nodes', q') → P nodes' q')
    (h : P (leaves f) (List.range (leaves f).length)) : P (tree f).nodes [(tree f).root] := by
  have hle := length_mergeLoop_queue_le (leaves f).length (nodes := leaves f) (q := List.range (leaves f).length) (by simp)
  obtain ⟨-, -, htotal, -, hsize⟩ := mergeLoop_keeps_mergeInv (leaves f).length (mergeInv_leaves f)
  obtain ⟨r, hr⟩ := List.length_eq_one_iff.mp (le_antisymm hle (by omega))
  have hP := mergeLoop_keeps hstep (leaves f).length h
  rw [hr] at hP
  rw [tree_eq_mergedTree hn]
  simpa only [mergedTree, hr, List.headD_cons] using hP

/-! ### Children -/

/-- Index `c` is the child of node `j` under marker `m`. -/
def IsChild (nodes : List NodeRec) (j : Nat) (m : Marker) (c : BitVec 9) : Prop :=
  ∃ r, nodes[j]? = some r ∧ r.child m = some c

/-- Index `c` is the child of no node below `i`: at that point it has not been taken from Q. -/
def Free (nodes : List NodeRec) (i : Nat) (c : BitVec 9) : Prop := ∀ j < i, ∀ m, ¬IsChild nodes j m c

theorem IsChild.lt_length {nodes : List NodeRec} {j : Nat} {m : Marker} {c : BitVec 9} (h : IsChild nodes j m c) :
    j < nodes.length := by
  obtain ⟨r, hr, -⟩ := h
  exact (List.getElem?_eq_some_iff.mp hr).1

theorem isChild_append_iff_of_lt {nodes : List NodeRec} {r : NodeRec} {j : Nat} {m : Marker} {c : BitVec 9}
    (hj : j < nodes.length) : IsChild (nodes ++ [r]) j m c ↔ IsChild nodes j m c := by
  rw [IsChild, IsChild, List.getElem?_append_left hj]

theorem free_append_iff_of_le {nodes : List NodeRec} {r : NodeRec} {i : Nat} {c : BitVec 9} (hi : i ≤ nodes.length) :
    Free (nodes ++ [r]) i c ↔ Free nodes i c :=
  forall₂_congr fun _ hj => forall_congr' fun _ => not_congr (isChild_append_iff_of_lt (hj.trans_le hi))

theorem isChild_mergedNode_iff {nodes : List NodeRec} {a b j : Nat} {m : Marker} {c : BitVec 9} :
    IsChild (nodes ++ [mergedNode nodes a b]) j m c ↔ IsChild nodes j m c ∨
      j = nodes.length ∧ (m = .zero ∧ c = BitVec.ofNat 9 a ∨ m = .one ∧ c = BitVec.ofNat 9 b) := by
  obtain hj | rfl | hj := lt_trichotomy j nodes.length
  · simp [isChild_append_iff_of_lt hj, hj.ne]
  · cases m <;> simp [IsChild, mergedNode, NodeRec.internal, NodeRec.child, eq_comm]
  · have h1 : ¬IsChild nodes j m c := fun h => (h.lt_length.trans hj).ne rfl
    have h2 : ¬IsChild (nodes ++ [mergedNode nodes a b]) j m c := fun h => by
      have := h.lt_length
      simp at this
      omega
    simp [h1, h2, hj.ne']

theorem free_mergedNode_iff {nodes : List NodeRec} {a b : Nat} {c : BitVec 9} :
    Free (nodes ++ [mergedNode nodes a b]) (nodes.length + 1) c ↔
      Free nodes nodes.length c ∧ c ≠ BitVec.ofNat 9 a ∧ c ≠ BitVec.ofNat 9 b := by
  constructor
  · intro h
    refine ⟨(free_append_iff_of_le le_rfl).mp fun j hj => h j (hj.trans (Nat.lt_succ_self _)), ?_, ?_⟩ <;> rintro rfl
    · exact h _ (Nat.lt_succ_self _) .zero (isChild_mergedNode_iff.mpr (.inr ⟨rfl, .inl ⟨rfl, rfl⟩⟩))
    · exact h _ (Nat.lt_succ_self _) .one (isChild_mergedNode_iff.mpr (.inr ⟨rfl, .inr ⟨rfl, rfl⟩⟩))
  · rintro ⟨hfree, ha, hb⟩ j - m hc
    obtain hc | ⟨-, ⟨-, hc⟩ | ⟨-, hc⟩⟩ := isChild_mergedNode_iff.mp hc
    · exact hfree j hc.lt_length m hc
    · exact ha hc
    · exact hb hc

theorem IsChild.lt {n : Nat} {nodes : List NodeRec} (ho : IndexOrdered n nodes) {j : Nat} {m : Marker} {c : BitVec 9}
    (h : IsChild nodes j m c) : c.toNat < j := by
  obtain ⟨r, hr, hc⟩ := h
  exact ho.child_lt hr hc

theorem not_isChild_leaves (f : Vector Word 256) (j : Nat) (m : Marker) (c : BitVec 9) : ¬IsChild (leaves f) j m c := by
  rintro ⟨r, hr, hc⟩
  obtain ⟨v, -, rfl⟩ := List.mem_map.mp (List.mem_of_getElem? hr)
  simp at hc

/-- An index of the arena, or the one after it, is named by nine bits. -/
theorem toNat_index {i : Nat} (hi : i ≤ Config.nodeMax) : (BitVec.ofNat 9 i).toNat = i :=
  Nat.mod_eq_of_lt (hi.trans_lt (by decide))

theorem ofNat_index_inj {a b : Nat} (ha : a ≤ Config.nodeMax) (hb : b ≤ Config.nodeMax) :
    BitVec.ofNat 9 a = BitVec.ofNat 9 b ↔ a = b := by
  rw [← BitVec.toNat_inj, toNat_index ha, toNat_index hb]

/-! ### Keys of nodes that stand -/

theorem freqAt_of_eq_some {nodes : List NodeRec} {i : Nat} {r : NodeRec} (h : nodes[i]? = some r) : freqAt nodes i = r.freq := by
  rw [freqAt, h]
  rfl

theorem freqAt_append_of_lt {nodes : List NodeRec} {r : NodeRec} {a : Nat} (ha : a < nodes.length) :
    freqAt (nodes ++ [r]) a = freqAt nodes a := by
  rw [freqAt, freqAt, List.getElem?_append_left ha]

theorem keyLt_append_of_lt {nodes : List NodeRec} {r : NodeRec} {a b : Nat} (ha : a < nodes.length) (hb : b < nodes.length) :
    keyLt (nodes ++ [r]) a b = keyLt nodes a b := by
  simp only [keyLt, freqAt_append_of_lt ha, freqAt_append_of_lt hb]

theorem mergedNode_append_of_lt {nodes : List NodeRec} {r : NodeRec} {a b : Nat} (ha : a < nodes.length)
    (hb : b < nodes.length) : mergedNode (nodes ++ [r]) a b = mergedNode nodes a b := by
  simp only [mergedNode, freqAt_append_of_lt ha, freqAt_append_of_lt hb]

/-! ### Every internal node was made by a greedy step -/

/-- Node `i` is the parent of the two nodes of least key among those below `i` that were still free (41_build.md R136). -/
structure MergedFrom (nodes : List NodeRec) (i a b : Nat) : Prop where
  node : nodes[i]? = some (mergedNode nodes a b)
  left_lt : a < i
  right_lt : b < i
  left_free : Free nodes i (BitVec.ofNat 9 a)
  right_free : Free nodes i (BitVec.ofNat 9 b)
  left_least : keyLt nodes a b = true
  right_least : ∀ c < i, c ≠ a → c ≠ b → Free nodes i (BitVec.ofNat 9 c) → keyLt nodes b c = true

/-- Appending nodes does not change how a node was made. -/
theorem MergedFrom.append {nodes : List NodeRec} {i a b : Nat} (h : MergedFrom nodes i a b) (r : NodeRec) :
    MergedFrom (nodes ++ [r]) i a b := by
  obtain ⟨hnode, ha, hb, hfa, hfb, hl, hr⟩ := h
  have hi : i < nodes.length := (List.getElem?_eq_some_iff.mp hnode).1
  have hat := ha.trans hi
  have hbt := hb.trans hi
  refine ⟨?_, ha, hb, (free_append_iff_of_le hi.le).mpr hfa, (free_append_iff_of_le hi.le).mpr hfb, ?_, ?_⟩
  · rw [List.getElem?_append_left hi, mergedNode_append_of_lt hat hbt, hnode]
  · rw [keyLt_append_of_lt hat hbt, hl]
  · intro c hc hca hcb hfree
    rw [keyLt_append_of_lt hbt (hc.trans hi)]
    exact hr c hc hca hcb ((free_append_iff_of_le hi.le).mp hfree)

/-- The indices of a tree under construction: Q holds the free nodes, the others have one parent, every internal node was made greedily. -/
structure MergeOrder (f : Vector Word 256) (nodes : List NodeRec) (q : List Nat) : Prop where
  size : MergeInv (distinct f).length nodes q
  nodup : q.Nodup
  leaves : leaves f <+: nodes
  merged : ∀ i, (distinct f).length ≤ i → i < nodes.length → ∃ a b, MergedFrom nodes i a b
  queued : ∀ c < nodes.length, (c ∈ q ↔ Free nodes nodes.length (BitVec.ofNat 9 c))
  parent_unique : ∀ {j j' m m' c}, IsChild nodes j m c → IsChild nodes j' m' c → j = j' ∧ m = m'

theorem mergeOrder_leaves (f : Vector Word 256) : MergeOrder f (leaves f) (List.range (leaves f).length) where
  size := mergeInv_leaves f
  nodup := List.nodup_range
  leaves := List.prefix_rfl
  merged i hi hlt := by rw [length_leaves] at hlt; omega
  queued c hc := by simpa using ⟨fun _ _ _ _ => not_isChild_leaves f _ _ _, fun _ => by simpa using hc⟩
  parent_unique h := absurd h (not_isChild_leaves f _ _ _)

theorem MergeOrder.length_le {f : Vector Word 256} {nodes : List NodeRec} {q : List Nat} (h : MergeOrder f nodes q) :
    nodes.length ≤ Config.nodeMax := by
  have := h.size.nodes_le
  have := length_distinct_le f
  simp only [Config.nodeMax]
  omega

section Step

variable {f : Vector Word 256} {nodes : List NodeRec} {q : List Nat} {a b : Nat}

theorem Takes.left_lt (h : Takes nodes q a b) (ho : MergeOrder f nodes q) : a < nodes.length :=
  ho.size.queued_lt a h.left_mem

theorem Takes.right_lt (h : Takes nodes q a b) (ho : MergeOrder f nodes q) : b < nodes.length :=
  ho.size.queued_lt b (List.mem_of_mem_erase h.right_mem)

/-- An index in the arena is that of a node taken only if it is the node. -/
theorem MergeOrder.ofNat_ne {x c : Nat} (ho : MergeOrder f nodes q) (hx : x < nodes.length) (hc : c ≤ nodes.length)
    (hne : c ≠ x) : BitVec.ofNat 9 c ≠ BitVec.ofNat 9 x :=
  fun h => hne ((ofNat_index_inj (hc.trans ho.length_le) (hx.le.trans ho.length_le)).mp h)

/-- A node not yet made is nobody's child. -/
theorem MergeOrder.free_length (ho : MergeOrder f nodes q) : Free nodes nodes.length (BitVec.ofNat 9 nodes.length) := by
  intro j hj m hc
  have hlt := hc.lt ho.size.ordered
  rw [toNat_index ho.length_le] at hlt
  omega

theorem mergedFrom_mergedNode (ho : MergeOrder f nodes q) (h : Takes nodes q a b) :
    MergedFrom (nodes ++ [mergedNode nodes a b]) nodes.length a b := by
  have hat := h.left_lt ho
  have hbt := h.right_lt ho
  refine ⟨?_, hat, hbt, ?_, ?_, ?_, ?_⟩
  · rw [mergedNode_append_of_lt hat hbt]
    simp
  · exact (free_append_iff_of_le le_rfl).mpr ((ho.queued a hat).mp h.left_mem)
  · exact (free_append_iff_of_le le_rfl).mpr ((ho.queued b hbt).mp (List.mem_of_mem_erase h.right_mem))
  · rw [keyLt_append_of_lt hat hbt]
    exact keyLt_of_not_keyLt (h.left_least b (List.mem_of_mem_erase h.right_mem)) (h.ne ho.nodup)
  · intro c hc hca hcb hfree
    have hq : c ∈ q := (ho.queued c hc).mpr ((free_append_iff_of_le le_rfl).mp hfree)
    rw [keyLt_append_of_lt hbt hc]
    exact keyLt_of_not_keyLt (h.right_least c ((List.mem_erase_of_ne hca).mpr hq)) (Ne.symm hcb)

theorem MergeOrder.mem_queue_iff (ho : MergeOrder f nodes q) {c : Nat} :
    c ∈ (q.erase a).erase b ++ [nodes.length] ↔ (c ∈ q ∧ c ≠ a ∧ c ≠ b) ∨ c = nodes.length := by
  rw [List.mem_append, (ho.nodup.erase a).mem_erase_iff, ho.nodup.mem_erase_iff, List.mem_singleton]
  tauto

theorem MergeOrder.queued_step (ho : MergeOrder f nodes q) (h : Takes nodes q a b) {c : Nat} (hc : c < nodes.length + 1) :
    c ∈ (q.erase a).erase b ++ [nodes.length] ↔
      Free (nodes ++ [mergedNode nodes a b]) (nodes.length + 1) (BitVec.ofNat 9 c) := by
  have hat := h.left_lt ho
  have hbt := h.right_lt ho
  rw [ho.mem_queue_iff, free_mergedNode_iff]
  obtain hc | rfl := Nat.lt_succ_iff_lt_or_eq.mp hc
  · have hinj : ∀ {x}, x < nodes.length → (BitVec.ofNat 9 c ≠ BitVec.ofNat 9 x ↔ c ≠ x) := fun hx =>
      not_congr (ofNat_index_inj (hc.le.trans ho.length_le) (hx.le.trans ho.length_le))
    rw [hinj hat, hinj hbt, ho.queued c hc]
    simp [hc.ne]
  · simpa using ⟨ho.free_length, ho.ofNat_ne hat le_rfl hat.ne', ho.ofNat_ne hbt le_rfl hbt.ne'⟩

theorem MergeOrder.parent_unique_step (ho : MergeOrder f nodes q) (h : Takes nodes q a b) {j j' : Nat} {m m' : Marker}
    {c : BitVec 9} (h1 : IsChild (nodes ++ [mergedNode nodes a b]) j m c)
    (h2 : IsChild (nodes ++ [mergedNode nodes a b]) j' m' c) : j = j' ∧ m = m' := by
  have hat := h.left_lt ho
  have hbt := h.right_lt ho
  have hfa : ∀ {i k}, ¬IsChild nodes i k (BitVec.ofNat 9 a) := fun hi =>
    (ho.queued a hat).mp h.left_mem _ hi.lt_length _ hi
  have hfb : ∀ {i k}, ¬IsChild nodes i k (BitVec.ofNat 9 b) := fun hi =>
    (ho.queued b hbt).mp (List.mem_of_mem_erase h.right_mem) _ hi.lt_length _ hi
  have hab := ho.ofNat_ne hbt hat.le (h.ne ho.nodup)
  obtain h1 | ⟨rfl, ⟨rfl, rfl⟩ | ⟨rfl, rfl⟩⟩ := isChild_mergedNode_iff.mp h1 <;>
    obtain h2 | ⟨rfl, ⟨rfl, hc⟩ | ⟨rfl, hc⟩⟩ := isChild_mergedNode_iff.mp h2
  · exact ho.parent_unique h1 h2
  · exact absurd (hc ▸ h1) hfa
  · exact absurd (hc ▸ h1) hfb
  · exact absurd h2 hfa
  · exact ⟨rfl, rfl⟩
  · exact absurd hc hab
  · exact absurd h2 hfb
  · exact absurd hc.symm hab
  · exact ⟨rfl, rfl⟩

end Step

theorem mergeStep_keeps_mergeOrder {f : Vector Word 256} {nodes nodes' : List NodeRec} {q q' : List Nat}
    (ho : MergeOrder f nodes q) (hs : mergeStep nodes q = some (nodes', q')) : MergeOrder f nodes' q' := by
  have hsize := mergeStep_keeps_mergeInv ho.size hs
  obtain ⟨a, b, h, rfl, rfl⟩ := mergeStep_takes hs
  refine ⟨hsize, ?_, ho.leaves.trans (List.prefix_append _ _), fun i hn hi => ?_, fun c hc => ?_, ho.parent_unique_step h⟩
  · have hnew : nodes.length ∉ (q.erase a).erase b := fun hm =>
      (ho.size.queued_lt _ (List.mem_of_mem_erase (List.mem_of_mem_erase hm))).ne rfl
    exact List.nodup_append_comm.mp (List.nodup_cons.mpr ⟨hnew, (ho.nodup.erase a).erase b⟩)
  · rw [List.length_append, List.length_singleton] at hi
    obtain hi | rfl := Nat.lt_succ_iff_lt_or_eq.mp hi
    · obtain ⟨x, y, hxy⟩ := ho.merged i hn hi
      exact ⟨x, y, hxy.append _⟩
    · exact ⟨a, b, mergedFrom_mergedNode ho h⟩
  · rw [List.length_append, List.length_singleton] at hc ⊢
    exact ho.queued_step h hc

theorem mergeOrder_tree {f : Vector Word 256} (hn : 2 ≤ (distinct f).length) : MergeOrder f (tree f).nodes [(tree f).root] :=
  tree_meets hn mergeStep_keeps_mergeOrder (mergeOrder_leaves f)

/-! ### The tree of two symbols or more (41_build.md R137, R139) -/

theorem length_tree_nodes {f : Vector Word 256} (hn : 2 ≤ (distinct f).length) :
    (tree f).nodes.length = 2 * (distinct f).length - 1 := by
  have := (mergeOrder_tree hn).size.total
  rw [List.length_singleton] at this
  omega

/-- The last node made is nobody's child, so it is the one left in Q. -/
theorem root_tree {f : Vector Word 256} (hn : 2 ≤ (distinct f).length) : (tree f).root = 2 * (distinct f).length - 2 := by
  have ho := mergeOrder_tree hn
  have hlen := length_tree_nodes hn
  have hfree : Free (tree f).nodes (tree f).nodes.length (BitVec.ofNat 9 (2 * (distinct f).length - 2)) := by
    intro j hj m hc
    have hlt := hc.lt ho.size.ordered
    rw [toNat_index ((by omega : _ ≤ (tree f).nodes.length).trans ho.length_le)] at hlt
    omega
  exact (List.mem_singleton.mp ((ho.queued _ (by omega)).mpr hfree)).symm

end Sys2Proof.Machine

/-!
The tree of a BUILD as the state holds it: the leaves in order, the tree of one symbol, and one parent for every node but the root (41_build.md
R134, R138, R139).
-/

namespace Sys2Proof.Machine

open Sys2Proof

/-! ### The tables of a BUILD -/

section Built

variable {s : State} {u : List Byte}

theorem BuiltFrom.length_lt (hb : BuiltFrom s u) (hwf : s.cfg.WellFormed) : u.length < 2 ^ 32 := by
  have := hb.fits
  omega

/-- The input of a BUILD has a symbol or more. -/
theorem BuiltFrom.distinct_pos (hb : BuiltFrom s u) (hwf : s.cfg.WellFormed) : 0 < (distinct (count u)).length :=
  length_distinct_count_pos hb.nonempty (hb.length_lt hwf)

theorem BuiltFrom.toNat_nodeCount (hb : BuiltFrom s u) : s.nodeCount.toNat = (tree (count u)).nodes.length := by
  have := length_tree_nodes_le (count u)
  simp only [Config.nodeMax] at this
  rw [hb.nodeCount, BitVec.toNat_ofNat]
  omega

theorem BuiltFrom.toNat_root (hb : BuiltFrom s u) (hwf : s.cfg.WellFormed) : s.root.toNat = (tree (count u)).root := by
  rw [hb.root, toNat_index ((root_tree_lt (hb.distinct_pos hwf)).le.trans (length_tree_nodes_le _))]

/-- Below NODE_COUNT, NODE is the working copy. -/
theorem BuiltFrom.nodeAt_eq (hb : BuiltFrom s u) {i : BitVec 9} (hi : i.toNat < (tree (count u)).nodes.length) :
    s.nodeAt i = (tree (count u)).nodes[i.toNat]? := hb.nodes _ hi

theorem BuiltFrom.nodeAt_root (hb : BuiltFrom s u) (hwf : s.cfg.WellFormed) :
    s.nodeAt s.root = (tree (count u)).nodes[(tree (count u)).root]? := by
  have hroot := hb.toNat_root hwf
  rw [hb.nodeAt_eq (hroot.trans_lt (root_tree_lt (hb.distinct_pos hwf))), hroot]

theorem BuiltFrom.node_eq_some (hb : BuiltFrom s u) {i : Nat} {r : NodeRec} (hi : (tree (count u)).nodes[i]? = some r) :
    s.node[i]? = some r :=
  (hb.nodes i (List.getElem?_eq_some_iff.mp hi).1).trans hi

end Built

/-! ### The leaves (41_build.md R134) -/

theorem pairwise_symbolsDown : symbolsDown.Pairwise fun a b => b < a := by
  rw [symbolsDown, List.pairwise_map, List.pairwise_reverse]
  refine List.pairwise_lt_range.imp_of_mem fun {a b} ha hb hab => ?_
  rw [List.mem_range] at ha hb
  simpa [BitVec.lt_def, Nat.mod_eq_of_lt ha, Nat.mod_eq_of_lt hb] using hab

theorem pairwise_distinct (f : Vector Word 256) : (distinct f).Pairwise fun a b => b < a := pairwise_symbolsDown.filter _

/-- The tree of one symbol, as the builder makes it (41_build.md R138). -/
theorem tree_eq_singleTree {f : Vector Word 256} {x : Byte} (h : distinct f = [x]) :
    tree f = singleTree (NodeRec.leafOf x (entry f x)) := by
  simp [tree, leaves, h]

/-- An input has one distinct symbol, or two or more. -/
theorem distinct_singleton_or_two_le {f : Vector Word 256} (hf : 0 < (distinct f).length) :
    (∃ x, distinct f = [x]) ∨ 2 ≤ (distinct f).length := by
  obtain h | h := Nat.lt_or_ge 1 (distinct f).length
  · exact .inr h
  · exact .inl (List.length_eq_one_iff.mp (le_antisymm h hf))

theorem leaves_prefix_tree {f : Vector Word 256} (hf : 0 < (distinct f).length) : leaves f <+: (tree f).nodes := by
  obtain ⟨x, hx⟩ | hn := distinct_singleton_or_two_le hf
  · rw [tree_eq_singleTree hx, leaves, hx]
    exact List.prefix_append _ _
  · exact (mergeOrder_tree hn).leaves

theorem getElem?_leaves (f : Vector Word 256) (k : Nat) :
    (leaves f)[k]? = (distinct f)[k]?.map fun v => NodeRec.leafOf v (entry f v) := List.getElem?_map ..

theorem BuiltFrom.node_leaf {s : State} {u : List Byte} (hb : BuiltFrom s u) (hwf : s.cfg.WellFormed) {k : Nat} {v : Byte}
    (hk : (distinct (count u))[k]? = some v) : s.node[k]? = some (NodeRec.leafOf v (BitVec.ofNat 32 (u.count v))) := by
  obtain ⟨rest, hrest⟩ := leaves_prefix_tree (hb.distinct_pos hwf)
  have hleaf : (leaves (count u))[k]? = some (NodeRec.leafOf v (BitVec.ofNat 32 (u.count v))) := by
    rw [getElem?_leaves, hk, Option.map_some, entry_count]
  apply hb.node_eq_some
  rw [← hrest, List.getElem?_append_left (List.getElem?_eq_some_iff.mp hleaf).1, hleaf]

/-- Settles O34: the leaves are made of the distinct symbols, which stand in descending order. -/
theorem leavesInDescendingOrder : Obligations.LeavesInDescendingOrder := by
  intro s u hb hwf
  refine ⟨distinct (count u), pairwise_distinct _, fun v => mem_distinct_count_iff (hb.length_lt hwf), hb.distinct_pos hwf,
    le_min (length_distinct_le _) (length_distinct_count_le u), fun k hk => ?_⟩
  exact hb.node_leaf hwf (List.getElem?_eq_getElem hk)

/-! ### The tree of one symbol (41_build.md R138) -/

theorem distinct_count_of_forall_eq {u : List Byte} {x : Byte} (hne : u ≠ []) (hu : u.length < 2 ^ 32) (hx : ∀ v ∈ u, v = x) :
    distinct (count u) = [x] := by
  have hmem : x ∈ u := by
    obtain ⟨v, hv⟩ := List.exists_mem_of_ne_nil u hne
    exact hx v hv ▸ hv
  rw [← List.perm_singleton]
  refine (List.perm_ext_iff_of_nodup (nodup_distinct _) (List.nodup_singleton x)).mpr fun v => ?_
  rw [mem_distinct_count_iff hu, List.mem_singleton]
  exact ⟨hx v, fun h => h ▸ hmem⟩

/-- Settles O35: the builder's two-level tree, whose one leaf counts every unit. -/
theorem singleSymbolTreeHasOneChild : Obligations.SingleSymbolTreeHasOneChild := by
  intro s u x hb hwf hx
  have hcount : entry (count u) x = BitVec.ofNat 32 u.length := by
    rw [entry_count, List.count_eq_length.mpr fun v hv => (hx v hv).symm]
  have htree := tree_eq_singleTree (distinct_count_of_forall_eq hb.nonempty (hb.length_lt hwf) hx)
  rw [hcount] at htree
  refine ⟨?_, ?_, hb.node_eq_some (i := 0) ?_, hb.node_eq_some (i := 1) ?_⟩
  · rw [hb.nodeCount, htree]; rfl
  · rw [hb.root, htree]; rfl
  · rw [htree]; rfl
  · rw [htree]; rfl

/-! ### One parent for every node but the root (41_build.md R139) -/

/-- The root is internal, and every other node is the child of one node under one marker. -/
structure OneParentEach (t : BuiltTree) : Prop where
  root_internal : ∃ r, t.nodes[t.root]? = some r ∧ r.leaf = false
  exists_parent : ∀ c : BitVec 9, c.toNat < t.nodes.length → c.toNat ≠ t.root → ∃ j m, IsChild t.nodes j m c
  parent_unique : ∀ {j j' m m' c}, IsChild t.nodes j m c → IsChild t.nodes j' m' c → j = j' ∧ m = m'

theorem isChild_singleTree_iff {x : Byte} {f : Word} {j : Nat} {m : Marker} {c : BitVec 9} :
    IsChild (singleTree (NodeRec.leafOf x f)).nodes j m c ↔ j = 1 ∧ m = .zero ∧ c = 0 := by
  match j with
  | 0 => simp [IsChild, singleTree]
  | 1 => cases m <;> simp [IsChild, singleTree, NodeRec.internal, NodeRec.child, eq_comm (a := c)]
  | j + 2 => exact iff_of_false (fun h => absurd h.lt_length (by simp [singleTree])) fun ⟨h, _⟩ => by omega

theorem oneParentEach_singleTree (x : Byte) (f : Word) : OneParentEach (singleTree (NodeRec.leafOf x f)) where
  root_internal := ⟨_, rfl, rfl⟩
  exists_parent c hlt hne := by
    have h2 : c.toNat < 2 := hlt
    have h1 : c.toNat ≠ 1 := hne
    refine ⟨1, .zero, isChild_singleTree_iff.mpr ⟨rfl, rfl, BitVec.eq_of_toNat_eq ?_⟩⟩
    simp
    omega
  parent_unique h h' := by
    obtain ⟨rfl, rfl, -⟩ := isChild_singleTree_iff.mp h
    obtain ⟨rfl, rfl, -⟩ := isChild_singleTree_iff.mp h'
    exact ⟨rfl, rfl⟩

theorem oneParentEach_of_two_le {f : Vector Word 256} (hn : 2 ≤ (distinct f).length) : OneParentEach (tree f) where
  root_internal := by
    obtain ⟨a, b, h⟩ := (mergeOrder_tree hn).merged (tree f).root (by rw [root_tree hn]; omega)
      (root_tree_lt (by omega))
    exact ⟨_, h.node, rfl⟩
  exists_parent c hlt hne := by
    have hfree := ((mergeOrder_tree hn).queued _ hlt).not.mp (by simpa using hne)
    simp only [Free, BitVec.ofNat_toNat, BitVec.setWidth_eq] at hfree
    push Not at hfree
    obtain ⟨j, -, m, h⟩ := hfree
    exact ⟨j, m, h⟩
  parent_unique := (mergeOrder_tree hn).parent_unique

theorem oneParentEach_tree {f : Vector Word 256} (hf : 0 < (distinct f).length) : OneParentEach (tree f) := by
  obtain ⟨x, hx⟩ | hn := distinct_singleton_or_two_le hf
  · exact tree_eq_singleTree hx ▸ oneParentEach_singleTree x _
  · exact oneParentEach_of_two_le hn

theorem BuiltFrom.exists_child_iff {s : State} {u : List Byte} (hb : BuiltFrom s u) {p c : BitVec 9} {m : Marker} :
    (p.toNat < s.nodeCount.toNat ∧ ∃ n, s.nodeAt p = some n ∧ n.child m = some c) ↔
      IsChild (tree (count u)).nodes p.toNat m c := by
  rw [hb.toNat_nodeCount]
  constructor
  · rintro ⟨hp, h⟩
    rwa [hb.nodeAt_eq hp] at h
  · intro h
    refine ⟨h.lt_length, ?_⟩
    rwa [hb.nodeAt_eq h.lt_length]

/-- Settles O37: the tree's indices are ordered, and each merge step gives a parent to the two nodes it takes and to no other. -/
theorem everyNodeHasOneParent : Obligations.EveryNodeHasOneParent := by
  intro s u hb hwf
  have hpos := hb.distinct_pos hwf
  have hroot := hb.toNat_root hwf
  obtain ⟨⟨r, hr, hleaf⟩, hex, huniq⟩ := oneParentEach_tree hpos
  refine ⟨⟨r, ?_, hleaf⟩, ?_, fun i n m c hi hn hc => ?_, fun c hc hne => ?_⟩
  · rw [hb.nodeAt_root hwf, hr]
  · rw [hroot, hb.toNat_nodeCount]
    exact root_tree_lt hpos
  · exact (hb.exists_child_iff.mp ⟨hi, n, hn, hc⟩).lt (treeShape_tree _).ordered
  · obtain ⟨j, m, h⟩ := hex c (hb.toNat_nodeCount ▸ hc) fun he => hne (BitVec.eq_of_toNat_eq (he.trans hroot.symm))
    have hj : (BitVec.ofNat 9 j).toNat = j := toNat_index (h.lt_length.le.trans (length_tree_nodes_le _))
    refine ⟨(BitVec.ofNat 9 j, m), hb.exists_child_iff.mpr (hj.symm ▸ h), ?_⟩
    rintro ⟨p, m'⟩ hp
    obtain ⟨hpj, rfl⟩ := huniq (hb.exists_child_iff.mp hp) h
    exact Prod.ext (BitVec.eq_of_toNat_eq (hpj.trans hj.symm)) rfl

end Sys2Proof.Machine

/-!
The tree that the merge loop leaves, as a tree of symbols: what each index of NODE' stands for, with exact frequencies (41_build.md R136, R137).
-/

namespace Sys2Proof.Machine

open Sys2Proof

/-! ### Weight and cost of a tree of symbols -/

/-- The sum of the weights at the leaves: the combined frequency of the node that is the root (41_build.md R136). -/
def SymTree.weight (w : Byte → ℕ) (T : SymTree) : ℕ := (T.symbols.map w).sum

@[simp] theorem SymTree.weight_leaf (w : Byte → ℕ) (v : Byte) : (SymTree.leaf v).weight w = w v := by
  simp [weight, symbols]

@[simp] theorem SymTree.weight_node (w : Byte → ℕ) (l r : SymTree) : (SymTree.node l r).weight w = l.weight w + r.weight w := by
  simp [weight, symbols]

/-- One level deeper, every leaf costs its weight once more. -/
theorem SymTree.cost_succ (w : Byte → ℕ) (d : ℕ) (T : SymTree) : T.cost w (d + 1) = T.cost w d + T.weight w := by
  induction T generalizing d with
  | leaf v => simp [cost, Nat.mul_succ]
  | node l r ihl ihr =>
    simp only [cost, ihl, ihr, weight_node]
    omega

/-- A node adds its own weight to the costs of its two subtrees (41_build.md R140). -/
theorem SymTree.cost_node_zero (w : Byte → ℕ) (l r : SymTree) :
    (SymTree.node l r).cost w 0 = l.cost w 0 + r.cost w 0 + (SymTree.node l r).weight w := by
  simp only [cost, cost_succ, weight_node]
  omega

/-! ### Trees stored in NODE' -/

/-- Node `i` is the root of the tree, and each node's frequency is the weight below it. -/
def SymTree.Stored (w : Byte → ℕ) (nodes : List NodeRec) : SymTree → Nat → Prop
  | .leaf v, i => nodes[i]? = some (NodeRec.leafOf v (BitVec.ofNat 32 (w v)))
  | .node l r, i => ∃ a b : BitVec 9,
      nodes[i]? = some (NodeRec.internal (BitVec.ofNat 32 ((SymTree.node l r).weight w)) (some a) (some b)) ∧
      l.Stored w nodes a.toNat ∧ r.Stored w nodes b.toNat

theorem getElem?_append_of_eq_some {nodes : List NodeRec} {i : Nat} {x : NodeRec} (h : nodes[i]? = some x) (r : NodeRec) :
    (nodes ++ [r])[i]? = some x := by
  rw [List.getElem?_append_left (List.getElem?_eq_some_iff.mp h).1, h]

theorem SymTree.Stored.append {w : Byte → ℕ} {nodes : List NodeRec} {T : SymTree} {i : Nat} (h : T.Stored w nodes i)
    (x : NodeRec) : T.Stored w (nodes ++ [x]) i := by
  induction T generalizing i with
  | leaf v => exact getElem?_append_of_eq_some h x
  | node l r ihl ihr =>
    obtain ⟨a, b, hi, hl, hr⟩ := h
    exact ⟨a, b, getElem?_append_of_eq_some hi x, ihl hl, ihr hr⟩

theorem SymTree.Stored.freqAt {w : Byte → ℕ} {nodes : List NodeRec} {T : SymTree} {i : Nat} (h : T.Stored w nodes i) :
    freqAt nodes i = BitVec.ofNat 32 (T.weight w) := by
  cases T with
  | leaf v => rw [freqAt_of_eq_some h, SymTree.weight_leaf]; rfl
  | node l r =>
    obtain ⟨a, b, hi, -, -⟩ := h
    exact freqAt_of_eq_some hi

theorem SymTree.Stored.toNat_freqAt_le {w : Byte → ℕ} {nodes : List NodeRec} {T : SymTree} {i : Nat}
    (h : T.Stored w nodes i) : (Machine.freqAt nodes i).toNat ≤ T.weight w := by
  rw [h.freqAt]
  exact Nat.mod_le _ _

/-- The parent of two stored trees stores their node. -/
theorem SymTree.Stored.mergedNode {w : Byte → ℕ} {nodes : List NodeRec} {l r : SymTree} {a b : Nat}
    (hl : l.Stored w nodes a) (hr : r.Stored w nodes b) (ha : a ≤ Config.nodeMax) (hb : b ≤ Config.nodeMax) :
    (SymTree.node l r).Stored w (nodes ++ [mergedNode nodes a b]) nodes.length := by
  refine ⟨BitVec.ofNat 9 a, BitVec.ofNat 9 b, ?_, (toNat_index ha).symm ▸ hl.append _, (toNat_index hb).symm ▸ hr.append _⟩
  rw [Machine.mergedNode, hl.freqAt, hr.freqAt, ← BitVec.ofNat_add, SymTree.weight_node]
  simp

/-! ### The forest of the merge loop -/

theorem toNat_freq_mergedNode {nodes : List NodeRec} {a b : Nat}
    (hsum : (freqAt nodes a).toNat + (freqAt nodes b).toNat < 2 ^ 32) :
    (mergedNode nodes a b).freq.toNat = (freqAt nodes a).toNat + (freqAt nodes b).toNat :=
  BitVec.toNat_add_of_lt hsum

/-- The sum of the frequencies of nodes. -/
def freqSum (nodes : List NodeRec) : ℕ := (nodes.map fun r => r.freq.toNat).sum

theorem freqSum_append (l l' : List NodeRec) : freqSum (l ++ l') = freqSum l + freqSum l' := by simp [freqSum]

@[simp] theorem freqSum_singleton (r : NodeRec) : freqSum [r] = r.freq.toNat := by simp [freqSum]

/-- The trees of the nodes: those in Q share out the symbols, no frequency wraps, and the internal nodes made so far sum to the trees' costs. -/
structure Forest (u : List Byte) (nodes : List NodeRec) (q : List Nat) (g : Nat → SymTree) : Prop where
  stored : ∀ i < nodes.length, (g i).Stored u.count nodes i
  symbols : (q.map fun i => (g i).symbols).flatten.Perm (distinct (count u))
  weight_le : ∀ i < nodes.length, (g i).weight u.count ≤ u.length
  cost : (q.map fun i => (g i).cost u.count 0).sum + freqSum (leaves (count u)) = freqSum nodes

/-- Frequencies are exact (41_build.md R132, R136). -/
theorem Forest.toNat_freqAt {u : List Byte} {nodes : List NodeRec} {q : List Nat} {g : Nat → SymTree} {i : Nat}
    (h : Forest u nodes q g) (hu : u.length < 2 ^ 32) (hi : i < nodes.length) :
    (freqAt nodes i).toNat = (g i).weight u.count := by
  rw [(h.stored i hi).freqAt, BitVec.toNat_ofNat, Nat.mod_eq_of_lt ((h.weight_le i hi).trans_lt hu)]

/-- The trees before any merge: every node is a leaf. -/
def leafTree (f : Vector Word 256) (i : Nat) : SymTree := .leaf ((distinct f)[i]?.getD 0)

theorem forest_leaves (u : List Byte) :
    Forest u (leaves (count u)) (List.range (leaves (count u)).length) (leafTree (count u)) where
  stored i hi := by
    have hi' : i < (distinct (count u)).length := by simpa using hi
    show (leaves (count u))[i]? = _
    rw [getElem?_leaves, List.getElem?_eq_getElem hi', Option.map_some, entry_count]
    rfl
  symbols := by
    have hleaf : (List.range (distinct (count u)).length).map (fun i => (leafTree (count u) i).symbols) =
        (distinct (count u)).map fun v => [v] :=
      List.ext_getElem (by simp) fun i _ h => by
        have hi : i < (distinct (count u)).length := by simpa using h
        simp [leafTree, SymTree.symbols, hi]
    rw [length_leaves, hleaf, ← List.flatMap_def, List.flatMap_singleton']
  weight_le i _ := by
    rw [leafTree, SymTree.weight_leaf]
    exact List.count_le_length
  cost := by
    have h0 : (fun i => (leafTree (count u) i).cost u.count 0) = fun _ => 0 := by
      funext i
      simp [leafTree, SymTree.cost]
    simp [h0]

section Step

variable {u : List Byte} {nodes : List NodeRec} {q : List Nat} {g : Nat → SymTree} {a b : Nat}

theorem Forest.sum_weight (h : Forest u nodes q g) (hu : u.length < 2 ^ 32) :
    (q.map fun i => (g i).weight u.count).sum = u.length := by
  have hsum := (h.symbols.map u.count).sum_eq
  rw [sum_map_count_distinct hu, List.map_flatten, List.sum_flatten, List.map_map, List.map_map] at hsum
  exact hsum

/-- The two trees taken share the input with the others, so their sum does not wrap (41_build.md R136). -/
theorem Forest.weight_add_le (h : Forest u nodes q g) (hu : u.length < 2 ^ 32) (ht : Takes nodes q a b) :
    (g a).weight u.count + (g b).weight u.count ≤ u.length := by
  rw [← h.sum_weight hu, (ht.perm.map _).sum_eq]
  simp

/-- The trees after a merge step. -/
def mergedTrees (nodes : List NodeRec) (g : Nat → SymTree) (a b : Nat) : Nat → SymTree :=
  Function.update g nodes.length (.node (g a) (g b))

theorem mergedTrees_length (nodes : List NodeRec) (g : Nat → SymTree) (a b : Nat) :
    mergedTrees nodes g a b nodes.length = .node (g a) (g b) := Function.update_self ..

theorem mergedTrees_of_lt {i : Nat} (hi : i < nodes.length) : mergedTrees nodes g a b i = g i :=
  Function.update_of_ne hi.ne ..

/-- What is recorded of the trees in Q, before and after a merge step. -/
theorem map_mergedTrees {β : Type} (F : SymTree → β) (ho : MergeOrder (count u) nodes q) :
    ((q.erase a).erase b ++ [nodes.length]).map (fun i => F (mergedTrees nodes g a b i)) =
      ((q.erase a).erase b).map (fun i => F (g i)) ++ [F (.node (g a) (g b))] := by
  rw [List.map_append, List.map_singleton, mergedTrees_length]
  congr 1
  refine List.map_congr_left fun i hi => ?_
  rw [mergedTrees_of_lt (ho.size.queued_lt i (List.mem_of_mem_erase (List.mem_of_mem_erase hi)))]

theorem Forest.stored_step (h : Forest u nodes q g) (ho : MergeOrder (count u) nodes q) (ht : Takes nodes q a b) {i : Nat}
    (hi : i < nodes.length + 1) : (mergedTrees nodes g a b i).Stored u.count (nodes ++ [mergedNode nodes a b]) i := by
  have hat := ht.left_lt ho
  have hbt := ht.right_lt ho
  obtain hi | rfl := Nat.lt_succ_iff_lt_or_eq.mp hi
  · rw [mergedTrees_of_lt hi]
    exact (h.stored i hi).append _
  · rw [mergedTrees_length]
    exact (h.stored a hat).mergedNode (h.stored b hbt) (hat.le.trans ho.length_le) (hbt.le.trans ho.length_le)

theorem Forest.symbols_step (h : Forest u nodes q g) (ho : MergeOrder (count u) nodes q) (ht : Takes nodes q a b) :
    (((q.erase a).erase b ++ [nodes.length]).map fun i => (mergedTrees nodes g a b i).symbols).flatten.Perm
      (distinct (count u)) := by
  have hq := (ht.perm.map fun i => (g i).symbols).flatten
  rw [map_mergedTrees SymTree.symbols ho]
  simp only [List.map_cons, List.flatten_cons, ← List.append_assoc] at hq
  simp only [List.flatten_append, List.flatten_cons, List.flatten_nil, List.append_nil, SymTree.symbols]
  exact (List.perm_append_comm.trans hq.symm).trans h.symbols

theorem Forest.cost_step (h : Forest u nodes q g) (hu : u.length < 2 ^ 32) (ho : MergeOrder (count u) nodes q)
    (ht : Takes nodes q a b) :
    (((q.erase a).erase b ++ [nodes.length]).map fun i => (mergedTrees nodes g a b i).cost u.count 0).sum +
      freqSum (leaves (count u)) = freqSum (nodes ++ [mergedNode nodes a b]) := by
  have hq := (ht.perm.map fun i => (g i).cost u.count 0).sum_eq
  have hcost := h.cost
  have hfreq : (mergedNode nodes a b).freq.toNat = (SymTree.node (g a) (g b)).weight u.count := by
    have ha := h.toNat_freqAt hu (ht.left_lt ho)
    have hb := h.toNat_freqAt hu (ht.right_lt ho)
    have hle := h.weight_add_le hu ht
    rw [SymTree.weight_node, ← ha, ← hb]
    exact toNat_freq_mergedNode (by omega)
  rw [map_mergedTrees (fun T => T.cost u.count 0) ho, freqSum_append, freqSum_singleton, hfreq, List.sum_append,
    List.sum_singleton, SymTree.cost_node_zero]
  simp only [List.map_cons, List.sum_cons] at hq
  omega

theorem Forest.step (h : Forest u nodes q g) (hu : u.length < 2 ^ 32) (ho : MergeOrder (count u) nodes q)
    (ht : Takes nodes q a b) :
    Forest u (nodes ++ [mergedNode nodes a b]) ((q.erase a).erase b ++ [nodes.length]) (mergedTrees nodes g a b) where
  stored i hi := h.stored_step ho ht (by simpa using hi)
  symbols := h.symbols_step ho ht
  weight_le i hi := by
    obtain hi | rfl := Nat.lt_succ_iff_lt_or_eq.mp (by simpa using hi : i < nodes.length + 1)
    · rw [mergedTrees_of_lt hi]
      exact h.weight_le i hi
    · rw [mergedTrees_length, SymTree.weight_node]
      exact h.weight_add_le hu ht
  cost := h.cost_step hu ho ht

end Step

/-- The tree of two symbols or more, with the trees of its nodes. -/
theorem exists_forest_tree {u : List Byte} (hu : u.length < 2 ^ 32) (hn : 2 ≤ (distinct (count u)).length) :
    ∃ g, Forest u (tree (count u)).nodes [(tree (count u)).root] g := by
  refine (tree_meets (P := fun nodes q => MergeOrder (count u) nodes q ∧ ∃ g, Forest u nodes q g) hn ?_
    ⟨mergeOrder_leaves _, _, forest_leaves u⟩).2
  rintro nodes nodes' q q' ⟨ho, g, h⟩ hs
  refine ⟨mergeStep_keeps_mergeOrder ho hs, ?_⟩
  obtain ⟨a, b, ht, rfl, rfl⟩ := mergeStep_takes hs
  exact ⟨_, h.step hu ho ht⟩

end Sys2Proof.Machine

/-!
The merges as the state shows them: every internal node was made of the two least keys still free, and no frequency wraps (41_build.md R135 to R137).
-/

namespace Sys2Proof.Machine

open Sys2Proof

theorem MergedFrom.left_index {nodes : List NodeRec} {i a b : Nat} (h : MergedFrom nodes i a b) (hi : i ≤ Config.nodeMax) :
    (BitVec.ofNat 9 a).toNat = a := toNat_index (h.left_lt.le.trans hi)

theorem MergedFrom.right_index {nodes : List NodeRec} {i a b : Nat} (h : MergedFrom nodes i a b) (hi : i ≤ Config.nodeMax) :
    (BitVec.ofNat 9 b).toNat = b := toNat_index (h.right_lt.le.trans hi)

/-- A merge adds two frequencies that do not wrap (41_build.md R136). -/
theorem Forest.freqAt_add_lt {u : List Byte} {nodes : List NodeRec} {q : List Nat} {g : Nat → SymTree} {i a b : Nat}
    (h : Forest u nodes q g) (hu : u.length < 2 ^ 32) (hlen : nodes.length ≤ Config.nodeMax) (hm : MergedFrom nodes i a b) :
    (freqAt nodes a).toNat + (freqAt nodes b).toNat < 2 ^ 32 := by
  have hi : i < nodes.length := (List.getElem?_eq_some_iff.mp hm.node).1
  have hstored := h.stored i hi
  have hweight := h.weight_le i hi
  cases hg : g i with
  | leaf v =>
    rw [hg] at hstored
    cases hm.node.symm.trans hstored
  | node l r =>
    rw [hg] at hstored hweight
    obtain ⟨a', b', hnode, hl, hr⟩ := hstored
    obtain ⟨-, rfl, rfl⟩ : _ ∧ BitVec.ofNat 9 a = a' ∧ BitVec.ofNat 9 b = b' := by
      simpa [mergedNode, NodeRec.internal] using hm.node.symm.trans hnode
    rw [hm.left_index (hi.le.trans hlen)] at hl
    rw [hm.right_index (hi.le.trans hlen)] at hr
    have hla := hl.toNat_freqAt_le
    have hrb := hr.toNat_freqAt_le
    rw [SymTree.weight_node] at hweight
    omega

/-- The root counts every unit (41_build.md R137). -/
theorem BuiltFrom.root_freq {s : State} {u : List Byte} (hb : BuiltFrom s u) (hwf : s.cfg.WellFormed)
    (hn : 2 ≤ (distinct (count u)).length) : ∃ r, s.nodeAt s.root = some r ∧ r.freq.toNat = u.length := by
  have hu := hb.length_lt hwf
  have hlt := root_tree_lt (hb.distinct_pos hwf)
  obtain ⟨g, hf⟩ := exists_forest_tree hu hn
  have hsum : (g (tree (count u)).root).weight u.count = u.length := by simpa using hf.sum_weight hu
  have hr := List.getElem?_eq_getElem hlt
  refine ⟨_, (hb.nodeAt_root hwf).trans hr, ?_⟩
  rw [← freqAt_of_eq_some hr, hf.toNat_freqAt hu hlt, hsum]

/-- A leaf is nobody's parent, so only the nodes from `n` on can have taken an index. -/
theorem BuiltFrom.free_iff {s : State} {u : List Byte} (hb : BuiltFrom s u) (hn : 2 ≤ (distinct (count u)).length) {i : Nat}
    (hi : i ≤ (tree (count u)).nodes.length) {c : BitVec 9} : Free (tree (count u)).nodes i c ↔
      ∀ j nj, (distinct (count u)).length ≤ j → j < i → s.node[j]? = some nj → ∀ m, nj.notChild m c := by
  constructor
  · intro h j nj _ hj hnj m hc
    rw [hb.nodes j (hj.trans_le hi)] at hnj
    exact h j hj m ⟨nj, hnj, hc⟩
  · rintro h j hj m ⟨r, hr, hc⟩
    refine h j r ?_ hj (hb.node_eq_some hr) m hc
    by_contra hlt
    obtain ⟨rest, hrest⟩ := (mergeOrder_tree hn).leaves
    rw [← hrest, List.getElem?_append_left (by simpa using hlt)] at hr
    exact not_isChild_leaves _ j m c ⟨r, hr, hc⟩

theorem key_lt_of_keyLt {nodes : List NodeRec} {a b : BitVec 9} {na nb : NodeRec} (ha : nodes[a.toNat]? = some na)
    (hb : nodes[b.toNat]? = some nb) (h : keyLt nodes a.toNat b.toNat = true) :
    na.freq < nb.freq ∨ na.freq = nb.freq ∧ a < b := by
  rw [keyLt_iff, freqAt_of_eq_some ha, freqAt_of_eq_some hb, BitVec.toNat_inj] at h
  exact h

/-- Settles O36: each node the loop made is the parent of the two least keys still free, and the frequencies stay below the length of the input. -/
theorem mergesTakeLeastKeys : Obligations.MergesTakeLeastKeys := by
  intro s u hb hwf hn
  have hu := hb.length_lt hwf
  rw [← length_distinct_count hu] at hn ⊢
  have ho := mergeOrder_tree hn
  have hlen := length_tree_nodes hn
  obtain ⟨g, hf⟩ := exists_forest_tree hu hn
  refine ⟨hb.toNat_nodeCount.trans hlen, (hb.toNat_root hwf).trans (root_tree hn), hb.root_freq hwf hn, fun i hni hi => ?_⟩
  have hit : i < (tree (count u)).nodes.length := by omega
  obtain ⟨a, b, hm⟩ := ho.merged i hni hit
  obtain ⟨a, rfl⟩ : ∃ x : BitVec 9, x.toNat = a := ⟨_, hm.left_index (hit.le.trans ho.length_le)⟩
  obtain ⟨b, rfl⟩ : ∃ x : BitVec 9, x.toNat = b := ⟨_, hm.right_index (hit.le.trans ho.length_le)⟩
  have hsum := hf.freqAt_add_lt hu ho.length_le hm
  obtain ⟨hnode, ha, hbi, hfa, hfb, hleft, hright⟩ := hm
  have hna := List.getElem?_eq_getElem (ha.trans hit)
  have hnb := List.getElem?_eq_getElem (hbi.trans hit)
  rw [mergedNode, BitVec.ofNat_toNat, BitVec.ofNat_toNat, BitVec.setWidth_eq, BitVec.setWidth_eq, freqAt_of_eq_some hna,
    freqAt_of_eq_some hnb] at hnode
  rw [freqAt_of_eq_some hna, freqAt_of_eq_some hnb] at hsum
  rw [BitVec.ofNat_toNat, BitVec.setWidth_eq, hb.free_iff hn hit.le] at hfa hfb
  refine ⟨a, b, _, _, ha, hbi, hb.node_eq_some hna, hb.node_eq_some hnb, hb.node_eq_some hnode, hsum,
    fun j nj hj hji hnj m => ⟨hfa j nj hj hji hnj m, hfb j nj hj hji hnj m⟩, key_lt_of_keyLt hna hnb hleft,
    fun c nc hc hca hcb hnc hfree => ?_⟩
  rw [hb.nodeAt_eq (hc.trans hit)] at hnc
  refine key_lt_of_keyLt hnb hnc (hright _ hc ?_ ?_ ?_)
  · exact fun h => hca (BitVec.eq_of_toNat_eq h)
  · exact fun h => hcb (BitVec.eq_of_toNat_eq h)
  · rwa [BitVec.ofNat_toNat, BitVec.setWidth_eq, hb.free_iff hn hit.le]

end Sys2Proof.Machine

/-!
The code table as the list of the leaves' paths: what the generator writes, and the code of each symbol (41_build.md R141 to R143).
-/

namespace Sys2Proof.Machine

open Sys2Proof

/-! ### The paths of a tree of symbols -/

/-- The symbols with the paths to their leaves, in a tree whose root is reached by path `p`. -/
def SymTree.paths : SymTree → List Marker → List (Byte × List Marker)
  | .leaf v, p => [(v, p)]
  | .node l r, p => l.paths (p ++ [.zero]) ++ r.paths (p ++ [.one])

@[simp] theorem SymTree.map_fst_paths (T : SymTree) (p : List Marker) : (T.paths p).map Prod.fst = T.symbols := by
  induction T generalizing p with
  | leaf v => rfl
  | node l r ihl ihr => simp [paths, symbols, ihl, ihr]

/-- The cost of a tree is the weighted sum of its path lengths. -/
theorem SymTree.sum_paths (w : Byte → ℕ) (T : SymTree) (p : List Marker) :
    ((T.paths p).map fun x => w x.1 * x.2.length).sum = T.cost w p.length := by
  induction T generalizing p with
  | leaf v => simp [paths, cost]
  | node l r ihl ihr => simp [paths, cost, ihl, ihr]

theorem SymTree.length_symbols_pos (T : SymTree) : 0 < T.symbols.length := by
  induction T with
  | leaf v => exact Nat.one_pos
  | node l r ihl _ => simp [symbols]; omega

/-- Every step of a path passes a sibling that has a leaf of its own (41_build.md R139 (e)). -/
theorem SymTree.length_path_lt {T : SymTree} {p : List Marker} {x : Byte × List Marker} (hx : x ∈ T.paths p) :
    x.2.length < p.length + T.symbols.length := by
  induction T generalizing p with
  | leaf v =>
    obtain rfl := List.mem_singleton.mp hx
    exact Nat.lt_succ_self _
  | node l r ihl ihr =>
    have hl := l.length_symbols_pos
    have hr := r.length_symbols_pos
    rw [symbols, List.length_append]
    obtain hx | hx := List.mem_append.mp hx
    · have := ihl hx
      rw [List.length_append, List.length_singleton] at this
      omega
    · have := ihr hx
      rw [List.length_append, List.length_singleton] at this
      omega

theorem SymTree.prefix_path {T : SymTree} {p : List Marker} {x : Byte × List Marker} (hx : x ∈ T.paths p) : p <+: x.2 := by
  induction T generalizing p with
  | leaf v =>
    obtain rfl := List.mem_singleton.mp hx
    exact List.prefix_rfl
  | node l r ihl ihr =>
    obtain hx | hx := List.mem_append.mp hx
    · exact (List.prefix_append ..).trans (ihl hx)
    · exact (List.prefix_append ..).trans (ihr hx)

/-- No leaf stands at the root of a tree of two leaves or more. -/
theorem SymTree.path_ne_nil {T : SymTree} (hT : 2 ≤ T.symbols.length) {x : Byte × List Marker} (hx : x ∈ T.paths []) :
    x.2 ≠ [] := by
  intro h0
  cases T with
  | leaf v => simp [symbols] at hT
  | node l r =>
    obtain hx | hx := List.mem_append.mp hx
    · simpa [h0] using prefix_path hx
    · simpa [h0] using prefix_path hx

/-- Whatever the markers, some path is a part of them or goes on from them (41_build.md R143 (c)). -/
theorem SymTree.exists_path_comparable (T : SymTree) (p ms : List Marker) :
    ∃ x ∈ T.paths p, x.2 <+: p ++ ms ∨ p ++ ms <+: x.2 := by
  induction T generalizing p ms with
  | leaf v => exact ⟨(v, p), List.mem_singleton.mpr rfl, .inl (List.prefix_append ..)⟩
  | node l r ihl ihr =>
    rcases ms with _ | ⟨_ | _, ms⟩
    · obtain ⟨x, hx, -⟩ := ihl (p ++ [.zero]) []
      exact ⟨x, List.mem_append_left _ hx, .inr (by simpa using (List.prefix_append ..).trans (prefix_path hx))⟩
    · obtain ⟨x, hx, h⟩ := ihl (p ++ [.zero]) ms
      exact ⟨x, List.mem_append_left _ hx, by simpa using h⟩
    · obtain ⟨x, hx, h⟩ := ihr (p ++ [.one]) ms
      exact ⟨x, List.mem_append_right _ hx, by simpa using h⟩

/-! ### What the generator writes (41_build.md R141) -/

/-- The code written at a leaf. -/
def writeCode (c : Vector CodeRec 256) (x : Byte × List Marker) : Vector CodeRec 256 :=
  setEntry c x.1 (CodeRec.ofMarkers (leafCode x.2))

theorem entry_foldl_writeCode_of_notMem {ps : List (Byte × List Marker)} {v : Byte} (h : v ∉ ps.map Prod.fst)
    (c : Vector CodeRec 256) : entry (ps.foldl writeCode c) v = entry c v := by
  induction ps generalizing c with
  | nil => rfl
  | cons x xs ih =>
    obtain ⟨hx, hxs⟩ : v ≠ x.1 ∧ v ∉ xs.map Prod.fst := by simpa using h
    rw [List.foldl_cons, ih hxs, writeCode, entry_setEntry_ne c _ hx]

theorem entry_foldl_writeCode {ps : List (Byte × List Marker)} (hnd : (ps.map Prod.fst).Nodup) {x : Byte × List Marker}
    (hx : x ∈ ps) (c : Vector CodeRec 256) :
    entry (ps.foldl writeCode c) x.1 = CodeRec.ofMarkers (leafCode x.2) := by
  induction ps generalizing c with
  | nil => cases hx
  | cons y ys ih =>
    obtain ⟨hy, hys⟩ := List.nodup_cons.mp hnd
    rw [List.foldl_cons]
    obtain rfl | hx := List.mem_cons.mp hx
    · rw [entry_foldl_writeCode_of_notMem hy, writeCode, entry_setEntry_same]
    · exact ih hys hx _

/-- The walk from a stored tree writes the code of each of its leaves. -/
theorem SymTree.Stored.gen {w : Byte → ℕ} {n : Nat} {nodes : List NodeRec} (ho : IndexOrdered n nodes) {T : SymTree}
    {i fuel : Nat} (h : T.Stored w nodes i) (hf : i < fuel) (p : List Marker) (c : Vector CodeRec 256) :
    gen nodes fuel i p c = (T.paths p).foldl writeCode c := by
  induction T generalizing i fuel p c with
  | leaf v =>
    obtain ⟨fuel, rfl⟩ := Nat.exists_eq_succ_of_ne_zero (Nat.ne_zero_of_lt hf)
    exact gen_leaf h rfl
  | node l r ihl ihr =>
    obtain ⟨fuel, rfl⟩ := Nat.exists_eq_succ_of_ne_zero (Nat.ne_zero_of_lt hf)
    obtain ⟨a, b, hi, hl, hr⟩ := h
    have ha := ho.child_lt (m := .zero) hi rfl
    have hb := ho.child_lt (m := .one) hi rfl
    rw [gen_internal hi rfl, SymTree.paths, List.foldl_append, ← ihl (fuel := fuel) hl (by omega),
      ← ihr (fuel := fuel) hr (by omega)]
    rfl

/-! ### Following a path in NODE -/

/-- A path of a stored tree leads from its root to the leaf. -/
theorem SymTree.Stored.follow {w : Byte → ℕ} {s : State} {nodes : List NodeRec}
    (hs : ∀ {j : BitVec 9} {r : NodeRec}, nodes[j.toNat]? = some r → s.nodeAt j = some r) {T : SymTree} {i : BitVec 9}
    (h : T.Stored w nodes i.toNat) {p q : List Marker} {v : Byte} (hq : (v, p ++ q) ∈ T.paths p) :
    ∃ l f, s.follow i q = some l ∧ s.nodeAt l = some (NodeRec.leafOf v f) := by
  induction T generalizing i p q with
  | leaf x =>
    obtain ⟨rfl, rfl⟩ : v = x ∧ q = [] := by simpa [SymTree.paths] using hq
    exact ⟨i, _, rfl, hs h⟩
  | node l r ihl ihr =>
    obtain ⟨a, b, hi, hl, hr⟩ := h
    obtain hq | hq := List.mem_append.mp hq
    · obtain ⟨t, ht⟩ := SymTree.prefix_path hq
      obtain rfl : q = .zero :: t := by simpa using ht.symm
      obtain ⟨k, f, hk, hleaf⟩ := ihl hl (p := p ++ [.zero]) (q := t) (by simpa using hq)
      refine ⟨k, f, ?_, hleaf⟩
      rw [State.follow, hs hi]
      exact hk
    · obtain ⟨t, ht⟩ := SymTree.prefix_path hq
      obtain rfl : q = .one :: t := by simpa using ht.symm
      obtain ⟨k, f, hk, hleaf⟩ := ihr hr (p := p ++ [.one]) (q := t) (by simpa using hq)
      refine ⟨k, f, ?_, hleaf⟩
      rw [State.follow, hs hi]
      exact hk

theorem State.follow_append (s : State) (i : BitVec 9) (p q : List Marker) :
    s.follow i (p ++ q) = (s.follow i p).bind fun j => s.follow j q := by
  induction p generalizing i with
  | nil => rfl
  | cons m ms ih =>
    rw [List.cons_append, follow, follow]
    cases s.nodeAt i with
    | none => rfl
    | some n =>
      cases hc : n.child m with
      | none => simp [hc]
      | some t => simp [hc, ih]

/-- No path goes on from a leaf. -/
theorem State.follow_leafOf {s : State} {i l : BitVec 9} {v : Byte} {f : Word} {q : List Marker}
    (hi : s.nodeAt i = some (NodeRec.leafOf v f)) (h : s.follow i q = some l) : l = i ∧ q = [] := by
  cases q with
  | nil => exact ⟨(Option.some.inj h).symm, rfl⟩
  | cons m ms => simp [follow, hi] at h

end Sys2Proof.Machine

/-!
The code table of a BUILD: the code of a symbol is the path to its leaf, no code begins another, and what the codes cost (41_build.md R139, R140, R143;
42_encode.md R167).
-/

namespace Sys2Proof.Machine

open Sys2Proof

/-! ### The codes of a BUILD -/

/-- The code table of a BUILD is made of these symbols and paths, and each path leads from the root to a leaf of its symbol. -/
structure CodePaths (s : State) (u : List Byte) (ps : List (Byte × List Marker)) : Prop where
  symbols : (ps.map Prod.fst).Perm (distinct (count u))
  code : s.code = ps.foldl writeCode (Vector.replicate 256 CodeRec.empty)
  path_ne_nil : ∀ x ∈ ps, x.2 ≠ []
  length_le : ∀ x ∈ ps, x.2.length ≤ 255
  leads : ∀ x ∈ ps, ∃ l f, s.follow s.root x.2 = some l ∧ s.nodeAt l = some (NodeRec.leafOf x.1 f)

section Paths

variable {s : State} {u : List Byte} {ps : List (Byte × List Marker)}

theorem CodePaths.nodup (h : CodePaths s u ps) : (ps.map Prod.fst).Nodup := h.symbols.nodup_iff.mpr (nodup_distinct _)

theorem CodePaths.entry_eq (h : CodePaths s u ps) {x : Byte × List Marker} (hx : x ∈ ps) :
    entry s.code x.1 = CodeRec.ofMarkers x.2 := by
  rw [h.code, entry_foldl_writeCode h.nodup hx, leafCode, if_neg (h.path_ne_nil x hx)]

theorem CodePaths.markers_eq (h : CodePaths s u ps) {x : Byte × List Marker} (hx : x ∈ ps) :
    (entry s.code x.1).markers = x.2 := by
  rw [h.entry_eq hx, CodeRec.markers_ofMarkers (h.length_le x hx)]

theorem CodePaths.len_eq (h : CodePaths s u ps) {x : Byte × List Marker} (hx : x ∈ ps) :
    (entry s.code x.1).len.toNat = x.2.length := by
  rw [← CodeRec.length_markers, h.markers_eq hx]

theorem CodePaths.exists_path (h : CodePaths s u ps) (hu : u.length < 2 ^ 32) {v : Byte} (hv : v ∈ u) :
    ∃ p, (v, p) ∈ ps := by
  obtain ⟨⟨_, p⟩, hx, rfl⟩ := List.mem_map.mp (h.symbols.mem_iff.mpr ((mem_distinct_count_iff hu).mpr hv))
  exact ⟨p, hx⟩

theorem CodePaths.mem_of_path (h : CodePaths s u ps) {x : Byte × List Marker} (hx : x ∈ ps) : x.1 ∈ u :=
  mem_of_mem_distinct_count (h.symbols.mem_iff.mp (List.mem_map_of_mem hx))

theorem CodePaths.entry_of_notMem (h : CodePaths s u ps) {v : Byte} (hv : v ∉ u) : entry s.code v = CodeRec.empty := by
  rw [h.code, entry_foldl_writeCode_of_notMem, entry_replicate]
  exact fun hm => hv (mem_of_mem_distinct_count (h.symbols.mem_iff.mp hm))

/-- No path of the table begins another: that one would go on from a leaf (41_build.md R143 (b)). -/
theorem CodePaths.eq_of_prefix (h : CodePaths s u ps) {v w : Byte} {p q : List Marker} (hp : (v, p) ∈ ps) (hq : (w, q) ∈ ps)
    (hpq : p <+: q) : v = w := by
  obtain ⟨t, rfl⟩ := hpq
  obtain ⟨l, f, hl, hleaf⟩ := h.leads _ hp
  obtain ⟨k, f', hk, hleaf'⟩ := h.leads _ hq
  rw [State.follow_append, hl] at hk
  obtain ⟨rfl, -⟩ := State.follow_leafOf hleaf hk
  cases hleaf.symm.trans hleaf'
  rfl

end Paths

/-! ### The paths of the two kinds of tree -/

theorem codePaths_singleTree {s : State} {u : List Byte} (hb : BuiltFrom s u) {x : Byte} (hx : distinct (count u) = [x]) :
    CodePaths s u [(x, [.zero])] := by
  have htree := tree_eq_singleTree hx
  have hroot : s.root = 1 := by rw [hb.root, htree]; rfl
  have h1 : s.nodeAt 1 = some (NodeRec.internal (entry (count u) x) (some 0) none) :=
    hb.node_eq_some (i := 1) (by rw [htree]; rfl)
  have h0 : s.nodeAt 0 = some (NodeRec.leafOf x (entry (count u) x)) := hb.node_eq_some (i := 0) (by rw [htree]; rfl)
  refine ⟨by simp [hx], ?_, by simp, by simp, ?_⟩
  · rw [hb.code, htree]
    rfl
  · intro y hy
    obtain rfl := List.mem_singleton.mp hy
    refine ⟨0, _, ?_, h0⟩
    rw [hroot, State.follow, h1]
    rfl

/-- With two symbols or more the tree is a binary tree of those symbols, whose cost the internal nodes sum up. -/
theorem exists_symTree {s : State} {u : List Byte} (hb : BuiltFrom s u) (hwf : s.cfg.WellFormed)
    (hn : 2 ≤ (distinct (count u)).length) :
    ∃ T : SymTree, CodePaths s u (T.paths []) ∧ T.symbols.Perm (distinct (count u)) ∧
      T.cost u.count 0 + freqSum (leaves (count u)) = freqSum (tree (count u)).nodes := by
  obtain ⟨g, hf⟩ := exists_forest_tree (hb.length_lt hwf) hn
  have hstored := hf.stored _ (root_tree_lt (hb.distinct_pos hwf))
  have hsym : (g (tree (count u)).root).symbols.Perm (distinct (count u)) := by simpa using hf.symbols
  have hcost := hf.cost
  rw [List.map_singleton, List.sum_singleton] at hcost
  refine ⟨g (tree (count u)).root, ⟨by rwa [SymTree.map_fst_paths], ?_, fun x hx => ?_, fun x hx => ?_, fun x hx => ?_⟩,
    hsym, hcost⟩
  · rw [hb.code, codes, hstored.gen (treeShape_tree _).ordered (Nat.lt_succ_self _)]
  · exact SymTree.path_ne_nil (hsym.length_eq ▸ hn) hx
  · have hlt := SymTree.length_path_lt hx
    have hle := hsym.length_eq.trans_le (length_distinct_le _)
    rw [List.length_nil] at hlt
    omega
  · rw [← hb.toNat_root hwf] at hstored hx
    exact hstored.follow hb.node_eq_some (p := []) hx

/-- The code table of every BUILD is that of its tree's paths. -/
theorem exists_codePaths {s : State} {u : List Byte} (hb : BuiltFrom s u) (hwf : s.cfg.WellFormed) :
    ∃ ps, CodePaths s u ps := by
  obtain ⟨x, hx⟩ | hn := distinct_singleton_or_two_le (hb.distinct_pos hwf)
  · exact ⟨_, codePaths_singleTree hb hx⟩
  · obtain ⟨T, h, -⟩ := exists_symTree hb hwf hn
    exact ⟨_, h⟩

/-! ### The properties of the code -/

/-- Settles O38: the symbols of the input are those with a path, which is their code; the entries of the others are cleared. -/
theorem codesAreLeafPaths : Obligations.CodesAreLeafPaths := by
  intro s u hb hwf v
  obtain ⟨ps, h⟩ := exists_codePaths hb hwf
  refine ⟨fun hv => by rw [h.entry_of_notMem hv]; rfl, fun hv => ?_⟩
  obtain ⟨p, hp⟩ := h.exists_path (hb.length_lt hwf) hv
  obtain ⟨l, f, hl, hleaf⟩ := h.leads _ hp
  have hm := h.markers_eq hp
  refine ⟨fun h0 => h.path_ne_nil _ hp (hm.symm.trans (CodeRec.markers_eq_nil.mpr h0)), l, ?_, _, hleaf, rfl, rfl⟩
  rw [hm, hl]

/-- Settles O39: each code is the path to a leaf, and no path goes on from a leaf. -/
theorem codesArePrefixFree : Obligations.CodesArePrefixFree := by
  intro s u hb hwf v hv w hw hne hpre
  obtain ⟨ps, h⟩ := exists_codePaths hb hwf
  obtain ⟨p, hp⟩ := h.exists_path (hb.length_lt hwf) hv
  obtain ⟨q, hq⟩ := h.exists_path (hb.length_lt hwf) hw
  rw [h.markers_eq hp, h.markers_eq hq] at hpre
  exact hne (h.eq_of_prefix hp hq hpre)

/-- Settles O40: in a binary tree every marker sequence stays on some path, or passes its leaf. -/
theorem codeIsComplete : Obligations.CodeIsComplete := by
  intro s u hb hwf hn ms
  obtain ⟨T, h, -⟩ := exists_symTree hb hwf (by rwa [length_distinct_count (hb.length_lt hwf)])
  obtain ⟨x, hx, hcmp⟩ := T.exists_path_comparable [] ms
  rw [List.nil_append, ← h.markers_eq hx] at hcmp
  exact hcmp.imp (fun hp => ⟨x.1, h.mem_of_path hx, hp⟩) fun hp => ⟨x.1, h.mem_of_path hx, hp⟩

/-- Settles O41: the generator's bound, for the symbols counted, of which there are no more than units. -/
theorem codeLengthsAreBounded : Obligations.CodeLengthsAreBounded := by
  intro s u hb hwf v
  have hcode : (entry s.code v).len.toNat ≤ max 1 ((distinct (count u)).length - 1) :=
    hb.code ▸ codes_tree_codesWithin (count u) v
  have hunits := length_distinct_count_le u
  have hsyms := length_distinct_le (count u)
  have hpos := List.length_pos_iff.mpr hb.nonempty
  have hfits := hb.fits
  rw [length_distinct_count (hb.length_lt hwf)] at hcode hunits hsyms
  exact ⟨hcode, hsyms, by omega⟩

/-! ### The cost of the code -/

/-- The length of the encoded input is the weighted length of the table (42_encode.md R167). -/
theorem sum_len_eq_weightedLength {s : State} {u : List Byte} (hb : BuiltFrom s u) (hwf : s.cfg.WellFormed) :
    (u.map fun v => (entry s.code v).len.toNat).sum = weightedLength s.freq s.code := by
  simp only [weightedLength, hb.freq, toNat_entry_count (hb.length_lt hwf)]
  exact (sum_map_count_mul nodup_symbolsDown (fun v _ => mem_symbolsDown v) _).symm

/-- The weighted length of the table is the cost of its tree (41_build.md R140). -/
theorem weightedLength_eq_cost {s : State} {u : List Byte} (hb : BuiltFrom s u) (hwf : s.cfg.WellFormed) {T : SymTree}
    (h : CodePaths s u (T.paths [])) : weightedLength s.freq s.code = T.cost u.count 0 := by
  have hu := hb.length_lt hwf
  have hsub : ∀ v ∈ u, v ∈ T.symbols := fun v hv => by
    rw [← T.map_fst_paths [], h.symbols.mem_iff]
    exact (mem_distinct_count_iff hu).mpr hv
  have hnodup : T.symbols.Nodup := T.map_fst_paths [] ▸ h.nodup
  rw [← sum_len_eq_weightedLength hb hwf, ← sum_map_count_mul hnodup hsub, ← T.map_fst_paths [], List.map_map,
    ← List.length_nil, ← T.sum_paths u.count []]
  refine congrArg List.sum (List.map_congr_left fun x hx => ?_)
  simp only [Function.comp, h.len_eq hx]

theorem internalSum_eq {s : State} {u : List Byte} (hb : BuiltFrom s u) (hwf : s.cfg.WellFormed) :
    freqSum (leaves (count u)) + internalSum s (distinct (count u)).length = freqSum (tree (count u)).nodes := by
  have hnodes : s.node.toList.take s.nodeCount.toNat = (tree (count u)).nodes := by
    rw [hb.toNat_nodeCount]
    refine List.ext_getElem? fun i => ?_
    rw [List.getElem?_take, Vector.getElem?_toList]
    split
    next hi => exact hb.nodes i hi
    next hi => exact (List.getElem?_eq_none (not_lt.mp hi)).symm
  obtain ⟨rest, hrest⟩ := leaves_prefix_tree (hb.distinct_pos hwf)
  rw [internalSum, hnodes, ← hrest, ← length_leaves, List.drop_left, freqSum_append]
  rfl

/-- Settles O42: each internal node adds its frequency once to the costs of the trees below it. -/
theorem weightedLengthIsInternalSum : Obligations.WeightedLengthIsInternalSum := by
  intro s u hb hwf hn
  rw [← length_distinct_count (hb.length_lt hwf)] at hn ⊢
  obtain ⟨T, h, -, hcost⟩ := exists_symTree hb hwf hn
  have hsum := internalSum_eq hb hwf
  refine ⟨sum_len_eq_weightedLength hb hwf, ?_⟩
  rw [weightedLength_eq_cost hb hwf h]
  omega

end Sys2Proof.Machine

/-!
Optimality (41_build.md R140): no binary tree over the symbols costs less. A tree is compared as the weights and depths of its leaves. By Kraft's
equation two leaves are deepest; moving the two least weights there costs nothing, and merging them is the builder's own step.
-/

namespace Sys2Proof.Machine

open Sys2Proof

/-! ### Depths that fill a binary tree -/

/-- The depths, none below level `M`, meet Kraft's equation: the leaves share out the 2^M places of that level. -/
structure Fills (M : ℕ) (D : Multiset ℕ) : Prop where
  le : ∀ d ∈ D, d ≤ M
  kraft : (D.map fun d => 2 ^ (M - d)).sum = 2 ^ M

/-- The level can be that of a deepest leaf. -/
theorem Fills.exists_deepest {M : ℕ} {D : Multiset ℕ} (h : Fills M D) : ∃ N ∈ D, Fills N D := by
  induction M with
  | zero =>
    have hne : D ≠ 0 := by
      rintro rfl
      simpa using h.kraft
    obtain ⟨d, hd⟩ := Multiset.exists_mem_of_ne_zero hne
    exact ⟨0, Nat.le_zero.mp (h.le d hd) ▸ hd, h⟩
  | succ M ih =>
    by_cases hmem : M + 1 ∈ D
    · exact ⟨M + 1, hmem, h⟩
    have hle : ∀ d ∈ D, d ≤ M := fun d hd => by
      have := h.le d hd
      have : d ≠ M + 1 := fun he => hmem (he ▸ hd)
      omega
    have hhalf : (D.map fun d => 2 ^ (M + 1 - d)) = D.map fun d => 2 * 2 ^ (M - d) :=
      Multiset.map_congr rfl fun d hd => by rw [Nat.succ_sub (hle d hd), pow_succ']
    refine ih ⟨hle, ?_⟩
    have hk := h.kraft
    rw [hhalf, Multiset.sum_map_mul_left, pow_succ'] at hk
    omega

/-- A deepest leaf has another beside it, unless it is the only one: the places left are an even number. -/
theorem Fills.deepest_twice {M : ℕ} {D : Multiset ℕ} (h : Fills M (M ::ₘ D)) (hD : D ≠ 0) : M ∈ D := by
  by_contra hmem
  have hlt : ∀ d ∈ D, d < M := fun d hd => lt_of_le_of_ne (h.le d (Multiset.mem_cons_of_mem hd)) fun he => hmem (he ▸ hd)
  have heven : 2 ∣ (D.map fun d => 2 ^ (M - d)).sum := Multiset.dvd_sum fun x hx => by
    obtain ⟨d, hd, rfl⟩ := Multiset.mem_map.mp hx
    exact dvd_pow_self 2 (Nat.sub_ne_zero_of_lt (hlt d hd))
  obtain ⟨d, hd⟩ := Multiset.exists_mem_of_ne_zero hD
  have hM : 2 ∣ 2 ^ M := dvd_pow_self 2 (Nat.ne_zero_of_lt (hlt d hd))
  have hk := h.kraft
  rw [Multiset.map_cons, Multiset.sum_cons, Nat.sub_self, pow_zero] at hk
  omega

/-- Two deepest leaves leave the place of their parent. -/
theorem Fills.merge {M : ℕ} {D : Multiset ℕ} (h : Fills M (M ::ₘ M ::ₘ D)) : ∃ N, M = N + 1 ∧ Fills M (N ::ₘ D) := by
  have hk := h.kraft
  simp only [Multiset.map_cons, Multiset.sum_cons, Nat.sub_self, pow_zero] at hk
  cases M with
  | zero => simp at hk
  | succ N =>
    refine ⟨N, rfl, ?_, ?_⟩
    · intro d hd
      obtain rfl | hd := Multiset.mem_cons.mp hd
      · exact Nat.le_succ _
      · exact h.le d (Multiset.mem_cons_of_mem (Multiset.mem_cons_of_mem hd))
    · rw [Multiset.map_cons, Multiset.sum_cons, Nat.add_sub_cancel_left]
      omega

/-! ### Leaves as weights and depths -/

/-- The cost of leaves given as weights and depths. -/
def profileCost (L : Multiset (ℕ × ℕ)) : ℕ := (L.map fun x => x.1 * x.2).sum

@[simp] theorem profileCost_cons (x : ℕ × ℕ) (L : Multiset (ℕ × ℕ)) : profileCost (x ::ₘ L) = x.1 * x.2 + profileCost L := by
  simp [profileCost]

/-- A leaf of least weight changes places with a deepest one, at no cost. -/
theorem exists_deepen {x d M : ℕ} {L : Multiset (ℕ × ℕ)} (hx : ∀ y ∈ L.map Prod.fst, x ≤ y) (hM : M ∈ d ::ₘ L.map Prod.snd)
    (hle : d ≤ M) : ∃ L', L'.map Prod.fst = L.map Prod.fst ∧ M ::ₘ L'.map Prod.snd = d ::ₘ L.map Prod.snd ∧
      x * M + profileCost L' ≤ x * d + profileCost L := by
  obtain rfl | hM := Multiset.mem_cons.mp hM
  · exact ⟨L, rfl, rfl, le_rfl⟩
  obtain ⟨⟨y, M⟩, hy, rfl⟩ := Multiset.mem_map.mp hM
  obtain ⟨R, rfl⟩ := Multiset.exists_cons_of_mem hy
  refine ⟨(y, d) ::ₘ R, by simp, by simpa using Multiset.cons_swap .., ?_⟩
  have hxy : x ≤ y := hx y (by simp)
  obtain ⟨k, rfl⟩ := Nat.exists_eq_add_of_le hxy
  obtain ⟨m, rfl⟩ := Nat.exists_eq_add_of_le hle
  simp only [profileCost_cons]
  nlinarith

/-- The leaves with a given weight taken out. -/
theorem exists_eq_cons_of_map_fst {L : Multiset (ℕ × ℕ)} {x : ℕ} {X : Multiset ℕ} (h : L.map Prod.fst = x ::ₘ X) :
    ∃ d R, L = (x, d) ::ₘ R ∧ R.map Prod.fst = X := by
  obtain ⟨⟨x, d⟩, hmem, rfl, rfl⟩ := (Multiset.map_eq_cons _ _ _ _).mpr h
  exact ⟨d, _, (Multiset.cons_erase hmem).symm, rfl⟩

/-- Merging the two least weights: the tree with their parent for a leaf costs less by their sum. -/
theorem exists_merged_profile {L : Multiset (ℕ × ℕ)} {x y M : ℕ} {X : Multiset ℕ} (hL : L.map Prod.fst = x ::ₘ y ::ₘ X)
    (hxy : x ≤ y) (hy : ∀ z ∈ X, y ≤ z) (hfill : Fills M (L.map Prod.snd)) :
    ∃ L' N, L'.map Prod.fst = (x + y) ::ₘ X ∧ Fills N (L'.map Prod.snd) ∧ profileCost L' + (x + y) ≤ profileCost L := by
  obtain ⟨M, hM, hfill⟩ := hfill.exists_deepest
  obtain ⟨d, R, rfl, hR⟩ := exists_eq_cons_of_map_fst hL
  rw [Multiset.map_cons] at hM hfill
  have hx : ∀ z ∈ R.map Prod.fst, x ≤ z := by
    rw [hR]
    exact Multiset.forall_mem_cons.mpr ⟨hxy, fun z hz => hxy.trans (hy z hz)⟩
  obtain ⟨R1, hw1, hd1, hc1⟩ := exists_deepen hx hM (hfill.le d (Multiset.mem_cons_self ..))
  obtain ⟨e, S, rfl, hS⟩ := exists_eq_cons_of_map_fst (hw1.trans hR)
  rw [← hd1] at hfill
  have hM' := hfill.deepest_twice (by simp)
  rw [Multiset.map_cons] at hM' hfill
  obtain ⟨S1, hw2, hd2, hc2⟩ := exists_deepen (hS ▸ hy) hM' (hfill.le e (by simp))
  rw [← hd2] at hfill
  obtain ⟨N, rfl, hmerged⟩ := hfill.merge
  refine ⟨(x + y, N) ::ₘ S1, N + 1, by simp [hw2, hS], by simpa using hmerged, ?_⟩
  simp only [profileCost_cons] at hc1 ⊢
  nlinarith

/-! ### The merge loop is the cheapest way to merge -/

/-- The frequencies of the nodes in Q. -/
def queueFreqs (nodes : List NodeRec) (q : List Nat) : Multiset ℕ := q.map fun i => (freqAt nodes i).toNat

theorem Takes.queueFreqs_eq {nodes : List NodeRec} {q : List Nat} {a b : Nat} (h : Takes nodes q a b) :
    queueFreqs nodes q = (freqAt nodes a).toNat ::ₘ (freqAt nodes b).toNat ::ₘ queueFreqs nodes ((q.erase a).erase b) :=
  Multiset.coe_eq_coe.mpr (h.perm.map _)

/-- A merge step replaces the two least frequencies by their sum. -/
theorem queueFreqs_step {nodes : List NodeRec} {q : List Nat} {a b : Nat} (hq : ∀ i ∈ q, i < nodes.length)
    (hsum : (freqAt nodes a).toNat + (freqAt nodes b).toNat < 2 ^ 32) :
    queueFreqs (nodes ++ [mergedNode nodes a b]) ((q.erase a).erase b ++ [nodes.length]) =
      ((freqAt nodes a).toNat + (freqAt nodes b).toNat) ::ₘ queueFreqs nodes ((q.erase a).erase b) := by
  have hnew := freqAt_of_eq_some (List.getElem?_concat_length (l := nodes) (a := mergedNode nodes a b))
  have hrest : ((q.erase a).erase b).map (fun i => (freqAt (nodes ++ [mergedNode nodes a b]) i).toNat) =
      ((q.erase a).erase b).map fun i => (freqAt nodes i).toNat :=
    List.map_congr_left fun i hi => by
      rw [freqAt_append_of_lt (hq i (List.mem_of_mem_erase (List.mem_of_mem_erase hi)))]
  rw [queueFreqs, List.map_append, hrest, List.map_singleton, hnew, toNat_freq_mergedNode hsum]
  exact Multiset.coe_eq_coe.mpr List.perm_append_comm

theorem toNat_freqAt_le_of_not_keyLt {nodes : List NodeRec} {a b : Nat} (h : ¬keyLt nodes b a = true) :
    (freqAt nodes a).toNat ≤ (freqAt nodes b).toNat := by
  rw [keyLt_iff] at h
  omega

/-- Whatever tree is made of the nodes in Q, the parents that the loop still makes sum to no more than its cost. -/
theorem freqSum_mergeLoop_le (fuel : Nat) {f : Vector Word 256} {nodes : List NodeRec} {q : List Nat}
    (ho : MergeOrder f nodes q) {L : Multiset (ℕ × ℕ)} {M : ℕ} (hL : L.map Prod.fst = queueFreqs nodes q)
    (hfill : Fills M (L.map Prod.snd)) (hsum : (queueFreqs nodes q).sum < 2 ^ 32) :
    freqSum (mergeLoop fuel nodes q).1 ≤ freqSum nodes + profileCost L := by
  induction fuel generalizing nodes q L M with
  | zero => exact Nat.le_add_right ..
  | succ fuel ih =>
    rw [mergeLoop]
    split
    · exact Nat.le_add_right ..
    next hs =>
      have ho' := mergeStep_keeps_mergeOrder ho hs
      obtain ⟨a, b, h, rfl, rfl⟩ := mergeStep_takes hs
      rw [h.queueFreqs_eq] at hL hsum
      simp only [Multiset.sum_cons] at hsum
      have hstep := queueFreqs_step (q := q) ho.size.queued_lt (a := a) (b := b) (by omega)
      have hle : ∀ z ∈ queueFreqs nodes ((q.erase a).erase b), (freqAt nodes b).toNat ≤ z := by
        intro z hz
        obtain ⟨i, hi, rfl⟩ := List.mem_map.mp (Multiset.mem_coe.mp hz)
        exact toNat_freqAt_le_of_not_keyLt (h.right_least i (List.mem_of_mem_erase hi))
      obtain ⟨L', N, hL', hfill', hcost⟩ := exists_merged_profile hL
        (toNat_freqAt_le_of_not_keyLt (h.left_least b (List.mem_of_mem_erase h.right_mem))) hle hfill
      have hrec := ih ho' (hL'.trans hstep.symm) hfill' (by rw [hstep, Multiset.sum_cons]; omega)
      rw [freqSum_append, freqSum_singleton, toNat_freq_mergedNode (by omega)] at hrec
      omega

/-! ### The leaves of a tree of symbols -/

/-- The weights and depths of a tree's leaves. -/
def SymTree.profile (w : Byte → ℕ) (T : SymTree) : Multiset (ℕ × ℕ) := (T.paths []).map fun x => (w x.1, x.2.length)

theorem SymTree.profileCost_profile (w : Byte → ℕ) (T : SymTree) : profileCost (T.profile w) = T.cost w 0 := by
  rw [← List.length_nil, ← T.sum_paths w []]
  simp [profileCost, profile, Function.comp_def]

theorem SymTree.map_fst_profile (w : Byte → ℕ) (T : SymTree) : (T.profile w).map Prod.fst = (T.symbols.map w : List ℕ) := by
  rw [profile, Multiset.map_coe, List.map_map, ← T.map_fst_paths [], List.map_map]
  rfl

/-- The leaves below a node share out its places (Kraft's equation). -/
theorem SymTree.exists_kraft (T : SymTree) : ∃ h, ∀ (p : List Marker) (M : ℕ), p.length + h ≤ M →
    (∀ x ∈ T.paths p, x.2.length ≤ M) ∧ ((T.paths p).map fun x => 2 ^ (M - x.2.length)).sum = 2 ^ (M - p.length) := by
  induction T with
  | leaf v => exact ⟨0, fun p M hM => by simpa [paths] using hM⟩
  | node l r ihl ihr =>
    obtain ⟨hl, ihl⟩ := ihl
    obtain ⟨hr, ihr⟩ := ihr
    refine ⟨hl + hr + 1, fun p M hM => ?_⟩
    obtain ⟨hlle, hlsum⟩ := ihl (p ++ [.zero]) M (by simp; omega)
    obtain ⟨hrle, hrsum⟩ := ihr (p ++ [.one]) M (by simp; omega)
    refine ⟨fun x hx => (List.mem_append.mp hx).elim (hlle x) (hrle x), ?_⟩
    have hpow : M - p.length = M - (p.length + 1) + 1 := by omega
    rw [paths, List.map_append, List.sum_append, hlsum, hrsum, hpow, pow_succ]
    simp only [List.length_append, List.length_singleton]
    omega

theorem SymTree.exists_fills (w : Byte → ℕ) (T : SymTree) : ∃ M, Fills M ((T.profile w).map Prod.snd) := by
  obtain ⟨M, h⟩ := T.exists_kraft
  obtain ⟨hle, hsum⟩ := h [] M (by simp)
  refine ⟨M, ?_, ?_⟩
  · intro d hd
    obtain ⟨x, hx, rfl⟩ : ∃ x ∈ T.paths [], x.2.length = d := by simpa [profile] using hd
    exact hle x hx
  · simpa [profile, Function.comp_def] using hsum

/-! ### The tree of a BUILD -/

theorem queueFreqs_leaves {u : List Byte} (hu : u.length < 2 ^ 32) :
    queueFreqs (leaves (count u)) (List.range (leaves (count u)).length) = ((distinct (count u)).map u.count : List ℕ) := by
  refine congrArg Multiset.ofList (List.ext_getElem (by simp) fun i hi _ => ?_)
  have hlt : i < (distinct (count u)).length := by simpa using hi
  rw [List.getElem_map, List.getElem_map, List.getElem_range,
    freqAt_of_eq_some (by rw [getElem?_leaves, List.getElem?_eq_getElem hlt]; rfl)]
  exact toNat_entry_count hu _

/-- The parents that BUILD makes sum to no more than the cost of any tree of the same symbols. -/
theorem freqSum_tree_le {u : List Byte} (hu : u.length < 2 ^ 32) (hn : 2 ≤ (distinct (count u)).length) {T : SymTree}
    (hT : T.symbols.Perm (distinct (count u))) :
    freqSum (tree (count u)).nodes ≤ freqSum (leaves (count u)) + T.cost u.count 0 := by
  obtain ⟨M, hfill⟩ := T.exists_fills u.count
  rw [tree_eq_mergedTree hn, ← T.profileCost_profile]
  refine freqSum_mergeLoop_le _ (mergeOrder_leaves _) ?_ hfill ?_
  · rw [T.map_fst_profile, queueFreqs_leaves hu]
    exact Multiset.coe_eq_coe.mpr (hT.map _)
  · rwa [queueFreqs_leaves hu, Multiset.sum_coe, sum_map_count_distinct hu]

/-- Settles O43: the code costs what the internal nodes sum to, and the merges of two least weights are the cheapest. -/
theorem huffmanTreeIsOptimal : Obligations.HuffmanTreeIsOptimal := by
  intro s u hb hwf hn T hnodup hmem
  have hu := hb.length_lt hwf
  rw [← length_distinct_count hu] at hn
  have hperm : T.symbols.Perm (distinct (count u)) := (List.perm_ext_iff_of_nodup hnodup (nodup_distinct _)).mpr fun v => by
    rw [hmem, mem_distinct_count_iff hu]
  have hcount : (fun v => (entry s.freq v).toNat) = u.count := funext fun v => by rw [hb.freq, toNat_entry_count hu]
  obtain ⟨H, h, -, hcost⟩ := exists_symTree hb hwf hn
  have hle := freqSum_tree_le hu hn hperm
  rw [hcount, weightedLength_eq_cost hb hwf h]
  omega

end Sys2Proof.Machine

/-!
ENCODE (42_encode.md): the scan as the concatenation of codes and its two errors (R161 to R163), the round trip with DECODE (R165), and the code
of a single symbol (R166).
-/

namespace Sys2Proof.Machine

open Sys2Proof

/-! ### The units of a code -/

/-- The units of a stored code, bit by bit (30_encoding.md R95, R97). -/
theorem CodeRec.units_eq (c : CodeRec) :
    c.units = (List.range c.len.toNat).map fun j => if c.bits.getLsbD j then 0x31#8 else 0x30#8 := by
  rw [CodeRec.units, CodeRec.markers, List.map_map]
  refine List.map_congr_left fun j _ => ?_
  rw [Function.comp_apply]
  cases c.bits.getLsbD j <;> rfl

theorem length_flatMap_units (c : Vector CodeRec 256) (us : List Byte) :
    (us.flatMap fun v => (entry c v).units).length = (us.map fun v => (entry c v).len.toNat).sum := by
  simp [List.length_flatMap]

/-! ### One index of the scan (42_encode.md R161, R162) -/

section Scan

variable {c : Vector CodeRec 256} {depth i : Nat} {out us : List Byte} {u : Byte}

theorem encodeScan_unknown (h : (entry c u).len = 0) :
    encodeScan c depth i out (u :: us) = .raised .unknownSymbol .none i 0 := by
  rw [encodeScan]
  exact if_pos h

theorem encodeScan_overflow (h : (entry c u).len ≠ 0) (hover : depth < out.length + (entry c u).len.toNat) :
    encodeScan c depth i out (u :: us) = .raised .capacityExceeded .outOverflow i 0 := by
  rw [encodeScan]
  exact (if_neg h).trans (if_pos hover)

theorem encodeScan_fits (h : (entry c u).len ≠ 0) (hfits : out.length + (entry c u).len.toNat ≤ depth) :
    encodeScan c depth i out (u :: us) = encodeScan c depth (i + 1) (out ++ (entry c u).units) us := by
  rw [encodeScan]
  exact (if_neg h).trans (if_neg hfits.not_gt)

/-- The scan passes over symbols that are known and fit, and appends their codes. -/
theorem encodeScan_append {pre : List Byte} (hknown : ∀ v ∈ pre, (entry c v).len ≠ 0)
    (hfits : out.length + (pre.map fun v => (entry c v).len.toNat).sum ≤ depth) :
    encodeScan c depth i out (pre ++ us) =
      encodeScan c depth (i + pre.length) (out ++ pre.flatMap fun v => (entry c v).units) us := by
  induction pre generalizing i out with
  | nil => simp
  | cons v vs ih =>
    obtain ⟨hv, hvs⟩ := List.forall_mem_cons.mp hknown
    rw [List.map_cons, List.sum_cons] at hfits
    rw [List.cons_append, encodeScan_fits hv (by omega), ih hvs (by simp; omega)]
    simp [Nat.add_assoc, Nat.add_comm 1]

end Scan

/-! ### The command -/

theorem exec_encode (s : State) : exec .encode s = .next (s.dataComplete (encodeRule s)) := rfl

theorem encodeRule_of_unbuilt {s : State} (hb : s.built = false) : encodeRule s = .raised .notBuilt .none 0 0 := by
  simp [encodeRule, hb]

theorem encodeRule_of_ovf {s : State} (hb : s.built = true) (ho : s.inOvf = true) :
    encodeRule s = .raised .capacityExceeded .inOverflow s.cfg.ibufDepth 0 := by
  simp [encodeRule, hb, ho]

theorem encodeRule_eq_scan {s : State} (hb : s.built = true) (ho : s.inOvf = false) :
    encodeRule s = encodeScan s.code s.cfg.obufDepth 0 [] s.ibuf := by
  simp [encodeRule, hb, ho]

/-- ENCODE after the units before an index, all known and their codes fitting OBUF. -/
theorem encodeRule_eq_scan_from {s : State} {pre post : List Byte} (hb : s.built = true) (ho : s.inOvf = false)
    (hi : s.ibuf = pre ++ post) (hknown : ∀ v ∈ pre, (entry s.code v).len ≠ 0)
    (hfits : (pre.map fun v => (entry s.code v).len.toNat).sum ≤ s.cfg.obufDepth) :
    encodeRule s =
      encodeScan s.code s.cfg.obufDepth pre.length (pre.flatMap fun v => (entry s.code v).units) post := by
  rw [encodeRule_eq_scan hb ho, hi, encodeScan_append hknown (by simpa using hfits)]
  simp

/-- Settles O26: NotBuilt and IN_OVF are tested first, and the scan passes over what is known and fits up to the index that fails. -/
theorem encodeErrorsInOrder : Obligations.EncodeErrorsInOrder := by
  refine ⟨fun s hb => ?_, fun s hb => ⟨fun ho => ?_, fun pre post u ho hi hknown hfits => ?_⟩⟩
  · rw [exec_encode, encodeRule_of_unbuilt hb]
    exact ⟨_, rfl, rfl⟩
  · rw [exec_encode, encodeRule_of_ovf hb ho]
    exact ⟨_, _, rfl⟩
  · rw [exec_encode, encodeRule_eq_scan_from hb ho hi hknown hfits]
    refine ⟨fun hu => ?_, fun hu hover => ?_⟩
    · rw [encodeScan_unknown hu]
      exact ⟨_, _, rfl⟩
    · rw [encodeScan_overflow hu (by rwa [length_flatMap_units])]
      exact ⟨_, _, rfl⟩

/-- An input that is known and whose codes fit OBUF is encoded (42_encode.md R161). -/
theorem exec_encode_of_fits {s : State} (hb : s.built = true) (ho : s.inOvf = false)
    (hknown : ∀ v ∈ s.ibuf, (entry s.code v).len ≠ 0)
    (hfits : (s.ibuf.map fun v => (entry s.code v).len.toNat).sum ≤ s.cfg.obufDepth) :
    exec .encode s = .next (s.dataSuccess (s.ibuf.flatMap fun v => (entry s.code v).units)
      (zext32 (s.ibuf.map fun v => (entry s.code v).len.toNat).sum)) := by
  rw [exec_encode, encodeRule_eq_scan_from hb ho (List.append_nil _).symm hknown hfits, encodeScan,
    State.dataComplete, length_flatMap_units]

/-- Settles O30: the scan passes over the whole input. -/
theorem encodeConcatenatesCodes : Obligations.EncodeConcatenatesCodes := by
  intro s hb ho hknown hfits
  rw [exec_encode_of_fits hb ho hknown hfits]
  simp only [CodeRec.units_eq]
  exact ⟨_, _, rfl⟩

/-- An ENCODE that succeeds had its tables built, knew every symbol, and leaves the concatenated codes. -/
theorem exec_encode_ok {s t : State} (h : exec .encode s = .next t) (hok : t.err = .ok) :
    s.built = true ∧ (∀ v ∈ s.ibuf, (entry s.code v).len ≠ 0) ∧
      ∃ r, t = s.dataSuccess (s.ibuf.flatMap fun v => (entry s.code v).units) r := by
  cases h
  cases hb : s.built with
  | false => rw [encodeRule_of_unbuilt hb] at hok; cases hok
  | true =>
    cases ho : s.inOvf with
    | true => rw [encodeRule_of_ovf hb ho] at hok; cases hok
    | false =>
      rw [encodeRule_eq_scan hb ho] at hok ⊢
      obtain ⟨hs, hknown⟩ | ⟨k, -, hs⟩ | ⟨k, -, hs⟩ := encodeScan_cases s.code s.cfg.obufDepth 0 [] s.ibuf
      · exact ⟨rfl, hknown, _, by rw [hs]; rfl⟩
      · rw [hs] at hok; cases hok
      · rw [hs] at hok; cases hok

/-! ### Walks of the decoder -/

theorem Emits.trans {s : State} {i j k : BitVec 9} {ms ms' : List Marker} {out out' : List Byte} (h : Emits s i ms out j)
    (h' : Emits s j ms' out' k) : Emits s i (ms ++ ms') (out ++ out') k := by
  induction h with
  | nil => exact h'
  | inner hn hc hk hl _ ih => exact .inner hn hc hk hl (ih h')
  | leaf hn hc hk hl _ ih => exact .leaf hn hc hk hl (ih h')

/-- The loop of DECODE reads the markers of a walk and emits its symbols (43_decode.md R177, R180). -/
theorem Emits.decodeWalk_append {s : State} {cur c : BitVec 9} {ms : List Marker} {out : List Byte} (h : Emits s cur ms out c)
    (i : Nat) (acc us : List Byte) :
    decodeWalk s i cur acc (ms.map Marker.unit ++ us) = decodeWalk s (i + ms.length) c (acc ++ out) us := by
  induction h generalizing i acc with
  | nil => simp
  | inner hn hc hk hl _ ih =>
    rw [List.map_cons, List.cons_append, decodeWalk]
    simp [hn, hc, hk, hl, ih, Nat.add_assoc, Nat.add_comm 1]
  | leaf hn hc hk hl _ ih =>
    rw [List.map_cons, List.cons_append, decodeWalk]
    simp [hn, hc, hk, hl, ih, Nat.add_assoc, Nat.add_comm 1]

theorem exec_decode (s : State) : exec .decode s = execDecode s := rfl

theorem decodeRule_of_emits {s : State} {ms : List Marker} {out : List Byte} (hb : s.built = true) (ho : s.inOvf = false)
    (hi : s.ibuf = ms.map Marker.unit) (h : Emits s s.root ms out s.root) : decodeRule s = some (.success out) := by
  have hwalk := h.decodeWalk_append 0 [] []
  rw [List.append_nil, ← hi] at hwalk
  simp [decodeRule, hb, ho, hwalk, decodeWalk]

/-- A stream whose walk ends at the root is decoded (43_decode.md R176, R181). -/
theorem exec_decode_of_emits {s : State} {ms : List Marker} {out : List Byte} (hb : s.built = true) (ho : s.inOvf = false)
    (hi : s.ibuf = ms.map Marker.unit) (h : Emits s s.root ms out s.root) :
    exec .decode s = .next (s.dataSuccess out (zext32 out.length)) := by
  rw [exec_decode, execDecode, decodeRule_of_emits hb ho hi h]
  rfl

/-! ### The codes of a BUILD as walks -/

/-- A node of the tree that has a child is no leaf (41_build.md R134, R136, R138). -/
theorem leaf_eq_false_of_child {f : Vector Word 256} (hf : 0 < (distinct f).length) {i : Nat} {r : NodeRec} {m : Marker}
    {c : BitVec 9} (hi : (tree f).nodes[i]? = some r) (hc : r.child m = some c) : r.leaf = false := by
  obtain ⟨x, hx⟩ | hn := distinct_singleton_or_two_le hf
  · rw [tree_eq_singleTree hx] at hi
    obtain ⟨rfl, -, -⟩ := isChild_singleTree_iff.mp ⟨r, hi, hc⟩
    cases hi
    rfl
  · have ho := mergeOrder_tree hn
    obtain hlt | hle := Nat.lt_or_ge i (distinct f).length
    · obtain ⟨rest, hrest⟩ := ho.leaves
      rw [← hrest, List.getElem?_append_left (by rwa [length_leaves])] at hi
      exact absurd ⟨r, hi, hc⟩ (not_isChild_leaves f i m c)
    · obtain ⟨a, b, hab⟩ := ho.merged i hle (List.getElem?_eq_some_iff.mp hi).1
      cases hi.symm.trans hab.node
      rfl

theorem State.follow_cons {s : State} {i l : BitVec 9} {m : Marker} {ms : List Marker} (h : s.follow i (m :: ms) = some l) :
    ∃ n t, s.nodeAt i = some n ∧ n.child m = some t ∧ s.follow t ms = some l := by
  rw [follow] at h
  cases hn : s.nodeAt i with
  | none => simp [hn] at h
  | some n =>
    cases hc : n.child m with
    | none => simp [hn, hc] at h
    | some t => exact ⟨n, t, rfl, hc, by simpa [hn, hc] using h⟩

section Built

variable {s : State} {u : List Byte}

/-- A path from a node of the tree to a leaf below it is a walk that emits the leaf's symbol alone: the nodes before the leaf are internal. -/
theorem BuiltFrom.emits_of_follow (hb : BuiltFrom s u) (hwf : s.cfg.WellFormed) {i l : BitVec 9} {p : List Marker} {v : Byte}
    {f : Word} (hi : i.toNat < (tree (count u)).nodes.length) (hne : p ≠ []) (hp : s.follow i p = some l)
    (hl : s.nodeAt l = some (NodeRec.leafOf v f)) : Emits s i p [v] s.root := by
  induction p generalizing i with
  | nil => exact absurd rfl hne
  | cons m ms ih =>
    obtain ⟨n, t, hn, hc, hms⟩ := State.follow_cons hp
    have ht := (hb.walkStaysBelow hwf).child_lt hi hn hc
    cases ms with
    | nil =>
      cases hms
      exact .leaf hn hc hl rfl (.nil _)
    | cons m' ms =>
      obtain ⟨k, _, hk, hc', -⟩ := State.follow_cons hms
      exact .inner hn hc hk (leaf_eq_false_of_child (hb.distinct_pos hwf) ((hb.nodeAt_eq ht).symm.trans hk) hc')
        (ih ht (List.cons_ne_nil _ _) hms)

/-- The code of a symbol is a walk from the root back to it, which emits the symbol. -/
theorem BuiltFrom.emits_code (hb : BuiltFrom s u) (hwf : s.cfg.WellFormed) {v : Byte} (hv : v ∈ u) :
    Emits s s.root (entry s.code v).markers [v] s.root := by
  obtain ⟨ps, h⟩ := exists_codePaths hb hwf
  obtain ⟨p, hp⟩ := h.exists_path (hb.length_lt hwf) hv
  obtain ⟨l, f, hl, hleaf⟩ := h.leads _ hp
  rw [h.markers_eq hp]
  exact hb.emits_of_follow hwf (hb.walkStaysBelow hwf).root_lt (h.path_ne_nil _ hp) hl hleaf

theorem BuiltFrom.emits_codes (hb : BuiltFrom s u) (hwf : s.cfg.WellFormed) {vs : List Byte} (hvs : ∀ v ∈ vs, v ∈ u) :
    Emits s s.root (vs.flatMap fun v => (entry s.code v).markers) vs s.root := by
  induction vs with
  | nil => exact .nil _
  | cons v vs ih =>
    obtain ⟨hv, hvs⟩ := List.forall_mem_cons.mp hvs
    exact (hb.emits_code hwf hv).trans (ih hvs)

/-- Only the symbols of the input have a code. -/
theorem BuiltFrom.mem_of_len_ne_zero (hb : BuiltFrom s u) (hwf : s.cfg.WellFormed) {v : Byte}
    (hv : (entry s.code v).len ≠ 0) : v ∈ u :=
  not_imp_comm.mp (codesAreLeafPaths s u hb hwf v).1 hv

end Built

/-- Settles O44: the state after ENCODE has the same tables, in which the code of each symbol is a walk that emits it. -/
theorem decodeInvertsEncode : Obligations.DecodeInvertsEncode := by
  intro s t u hb hwf henc hok _
  obtain ⟨hbuilt, hknown, r, ht⟩ := exec_encode_ok henc hok
  have hsame : SameTables s { t with ibuf := t.obuf } := by subst ht; constructor <;> rfl
  have hwalk := (hsame.builtFrom hb).emits_codes (hsame.cfg ▸ hwf) fun v hv => hb.mem_of_len_ne_zero hwf (hknown v hv)
  subst ht
  exact ⟨_, exec_decode_of_emits hbuilt rfl (List.map_flatMap ..).symm hwalk, rfl, rfl, rfl⟩

/-- The code of a single symbol is one MARK0 (41_build.md R142). -/
theorem entry_code_of_forall_eq {s : State} {u : List Byte} {x : Byte} (hb : BuiltFrom s u) (hwf : s.cfg.WellFormed)
    (hx : ∀ v ∈ u, v = x) : entry s.code x = CodeRec.ofMarkers [.zero] :=
  (codePaths_singleTree hb (distinct_count_of_forall_eq hb.nonempty (hb.length_lt hwf) hx)).entry_eq
    (x := (x, [.zero])) (List.mem_singleton_self _)

/-- Settles O46: ENCODE concatenates k codes of one MARK0. -/
theorem singleSymbolEncode : Obligations.SingleSymbolEncode := by
  intro s u x k hb hwf hx hbuilt ho hi hk
  have hcode := entry_code_of_forall_eq hb hwf hx
  have hlen : (entry s.code x).len = 1 := by rw [hcode]; rfl
  have hunits : (entry s.code x).units = [0x30] := by rw [hcode]; rfl
  have hsum : (s.ibuf.map fun v => (entry s.code v).len.toNat).sum = k := by simp [hi, hlen]
  have hknown : ∀ v ∈ s.ibuf, (entry s.code v).len ≠ 0 := fun v hv => by
    rw [hi] at hv
    rw [List.eq_of_mem_replicate hv, hlen]
    decide
  refine ⟨hlen, _, exec_encode_of_fits hbuilt ho hknown (hsum.trans_le hk), rfl, ?_, ?_⟩
  · rw [State.dataSuccess_obuf, hi, List.flatMap_replicate, hunits]
    exact List.flatten_replicate_singleton
  · exact congrArg zext32 hsum

end Sys2Proof.Machine

/-!
DECODE (43_decode.md): its errors in their order (R178, R179, R181, R183) and its success (R180), the tree of a single symbol (R182), and
streams of valid markers with two symbols or more (R187).
-/

namespace Sys2Proof.Machine

open Sys2Proof

/-! ### One index of the walk (43_decode.md R178, R179, R181) -/

section Walk

variable {s : State} {i : Nat} {cur : BitVec 9} {out us : List Byte}

theorem decodeWalk_badMarker {u : Byte} (h0 : u ≠ Config.mark0) (h1 : u ≠ Config.mark1) :
    decodeWalk s i cur out (u :: us) = some (.raised .invalidEncoding .badMarker i out.length) := by
  rw [decodeWalk, Marker.ofUnit_eq_none.mpr ⟨h0, h1⟩]

theorem decodeWalk_noChild {m : Marker} {n : NodeRec} (hn : s.nodeAt cur = some n) (hc : n.child m = none) :
    decodeWalk s i cur out (m.unit :: us) = some (.raised .invalidEncoding .noChild i out.length) := by
  simp [decodeWalk, hn, hc]

theorem decodeWalk_incomplete (h : cur ≠ s.root) :
    decodeWalk s i cur out [] = some (.raised .incompleteSequence .none i out.length) := by
  rw [decodeWalk]
  exact if_neg h

end Walk

/-! ### The command -/

theorem exec_decode_of_rule {s : State} {r : OpResult (List Byte)} (h : decodeRule s = some r) :
    exec .decode s = .next (s.dataComplete r) := by
  rw [exec_decode, execDecode, h]

theorem decodeRule_of_unbuilt {s : State} (hb : s.built = false) : decodeRule s = some (.raised .notBuilt .none 0 0) := by
  simp [decodeRule, hb]

theorem decodeRule_of_ovf {s : State} (hb : s.built = true) (ho : s.inOvf = true) :
    decodeRule s = some (.raised .capacityExceeded .inOverflow s.cfg.ibufDepth 0) := by
  simp [decodeRule, hb, ho]

section Command

variable {s : State} {ms : List Marker} {out post : List Byte} {c : BitVec 9} (hb : s.built = true) (ho : s.inOvf = false)
  (h : Emits s s.root ms out c)

include hb ho h

/-- DECODE after the markers of a walk. -/
theorem decodeRule_eq_walk_from (hi : s.ibuf = ms.map Marker.unit ++ post) :
    decodeRule s = decodeWalk s ms.length c out post := by
  simp [decodeRule, hb, ho, hi, h.decodeWalk_append]

/-- A unit that is no marker ends DECODE, wherever the walk is (43_decode.md R178). -/
theorem exec_decode_badMarker {u : Byte} (hi : s.ibuf = ms.map Marker.unit ++ u :: post) (h0 : u ≠ Config.mark0)
    (h1 : u ≠ Config.mark1) :
    exec .decode s = .next (s.dataError .invalidEncoding .badMarker ms.length out.length) :=
  exec_decode_of_rule ((decodeRule_eq_walk_from hb ho h hi).trans (decodeWalk_badMarker h0 h1))

/-- A marker that selects an absent child ends DECODE (43_decode.md R179). -/
theorem exec_decode_noChild {m : Marker} {n : NodeRec} (hi : s.ibuf = ms.map Marker.unit ++ m.unit :: post)
    (hn : s.nodeAt c = some n) (hc : n.child m = none) :
    exec .decode s = .next (s.dataError .invalidEncoding .noChild ms.length out.length) :=
  exec_decode_of_rule ((decodeRule_eq_walk_from hb ho h hi).trans (decodeWalk_noChild hn hc))

/-- A stream that ends away from the root is an unfinished code (43_decode.md R181). -/
theorem exec_decode_incomplete (hi : s.ibuf = ms.map Marker.unit) (hc : c ≠ s.root) :
    exec .decode s = .next (s.dataError .incompleteSequence .none ms.length out.length) :=
  exec_decode_of_rule ((decodeRule_eq_walk_from hb ho h (hi.trans (List.append_nil _).symm)).trans
    (decodeWalk_incomplete hc))

end Command

/-- Settles O27: NotBuilt and IN_OVF are tested first, and the walk decides what the unit after it, or the end of the stream, gives. -/
theorem decodeErrorsInOrder : Obligations.DecodeErrorsInOrder := by
  refine ⟨fun s hb => ?_, fun s hb => ⟨fun ho => ?_, fun ms out c ho h => ⟨fun u post hi h0 h1 => ?_,
    fun m n post hi hn hc => ?_, fun hi hc => ?_⟩⟩⟩
  · exact ⟨_, exec_decode_of_rule (decodeRule_of_unbuilt hb), rfl, rfl, rfl⟩
  · exact ⟨_, _, exec_decode_of_rule (decodeRule_of_ovf hb ho)⟩
  · exact ⟨_, _, exec_decode_badMarker hb ho h hi h0 h1⟩
  · exact ⟨_, _, exec_decode_noChild hb ho h hi hn hc⟩
  · have hlen : s.ibuf.length = ms.length := by rw [hi, List.length_map]
    rw [hlen]
    exact ⟨_, _, exec_decode_incomplete hb ho h hi hc⟩

/-- Settles O31: a walk that ends at the root is decoded. -/
theorem decodeEmitsLeafSymbols : Obligations.DecodeEmitsLeafSymbols :=
  fun _ _ _ hb ho hi h => ⟨_, _, exec_decode_of_emits hb ho hi h⟩

/-! ### The tree of a single symbol (43_decode.md R182) -/

theorem map_unit_replicate_zero (j : Nat) :
    (List.replicate j Marker.zero).map Marker.unit = List.replicate j Config.mark0 := List.map_replicate

section Single

variable {s : State} {u : List Byte} {x : Byte} (hb : BuiltFrom s u) (hwf : s.cfg.WellFormed) (hx : ∀ v ∈ u, v = x)

include hb hwf hx

theorem BuiltFrom.single_nodes : ∃ f, s.nodeAt s.root = some (NodeRec.internal f (some 0) none) ∧
    s.nodeAt 0 = some (NodeRec.leafOf x f) := by
  obtain ⟨-, hroot, h0, h1⟩ := singleSymbolTreeHasOneChild s u x hb hwf hx
  exact ⟨_, hroot.symm ▸ h1, h0⟩

/-- Each MARK0 emits the symbol and returns to the root. -/
theorem BuiltFrom.emits_replicate_zero (j : Nat) : Emits s s.root (List.replicate j .zero) (List.replicate j x) s.root := by
  obtain ⟨f, hroot, hleaf⟩ := hb.single_nodes hwf hx
  induction j with
  | zero => exact .nil _
  | succ j ih => exact .leaf hroot rfl hleaf rfl ih

variable {j : Nat} {post : List Byte} (hbuilt : s.built = true) (ho : s.inOvf = false)

include hbuilt ho

theorem BuiltFrom.exec_decode_replicate (hi : s.ibuf = List.replicate j Config.mark0) :
    exec .decode s = .next (s.dataSuccess (List.replicate j x) (zext32 (List.replicate j x).length)) :=
  exec_decode_of_emits hbuilt ho (hi.trans (map_unit_replicate_zero j).symm) (hb.emits_replicate_zero hwf hx j)

theorem BuiltFrom.exec_decode_replicate_one (hi : s.ibuf = List.replicate j Config.mark0 ++ Config.mark1 :: post) :
    ∃ r, exec .decode s = .next (s.dataError .invalidEncoding .noChild j r) := by
  obtain ⟨f, hroot, -⟩ := hb.single_nodes hwf hx
  have h := exec_decode_noChild (m := .one) (post := post) hbuilt ho (hb.emits_replicate_zero hwf hx j)
    (by rw [hi, map_unit_replicate_zero]; rfl) hroot rfl
  exact ⟨_, List.length_replicate (n := j) ▸ h⟩

theorem BuiltFrom.exec_decode_replicate_other {y : Byte} (hi : s.ibuf = List.replicate j Config.mark0 ++ y :: post)
    (h0 : y ≠ Config.mark0) (h1 : y ≠ Config.mark1) :
    ∃ r, exec .decode s = .next (s.dataError .invalidEncoding .badMarker j r) := by
  have h := exec_decode_badMarker (post := post) hbuilt ho (hb.emits_replicate_zero hwf hx j)
    (by rw [hi, map_unit_replicate_zero]) h0 h1
  exact ⟨_, List.length_replicate (n := j) ▸ h⟩

end Single

/-- A list is a run of one value, followed by another value if by any. -/
theorem exists_eq_replicate_append {α : Type} (a : α) (us : List α) :
    ∃ j, us = List.replicate j a ∨ ∃ y post, y ≠ a ∧ us = List.replicate j a ++ y :: post := by
  induction us with
  | nil => exact ⟨0, .inl rfl⟩
  | cons y ys ih =>
    by_cases hy : y = a
    · obtain ⟨j, rfl | ⟨z, post, hz, rfl⟩⟩ := ih
      · exact ⟨j + 1, .inl (hy ▸ rfl)⟩
      · exact ⟨j + 1, .inr ⟨z, post, hz, hy ▸ rfl⟩⟩
    · exact ⟨0, .inr ⟨y, ys, hy, rfl⟩⟩

/-- Settles O45: the walk is back at the root after each MARK0, and every stream is a run of MARK0 that ends, or meets a MARK1 or no marker
(`exists_eq_replicate_append`). -/
theorem singleSymbolDecode : Obligations.SingleSymbolDecode := by
  intro s u x j hb hwf hx hbuilt ho
  refine ⟨fun hi => ?_, fun post hi => ?_, fun y post hi h0 h1 => ?_, fun t ht => ?_⟩
  · exact ⟨_, hb.exec_decode_replicate hwf hx hbuilt ho hi, rfl, rfl⟩
  · obtain ⟨r, hr⟩ := hb.exec_decode_replicate_one hwf hx hbuilt ho hi
    exact ⟨_, hr, rfl, rfl, rfl⟩
  · obtain ⟨r, hr⟩ := hb.exec_decode_replicate_other hwf hx hbuilt ho hi h0 h1
    exact ⟨_, hr, rfl, rfl, rfl⟩
  · obtain ⟨k, hi | ⟨y, post, h0, hi⟩⟩ := exists_eq_replicate_append Config.mark0 s.ibuf
    · cases ht.symm.trans (hb.exec_decode_replicate hwf hx hbuilt ho hi)
      nofun
    by_cases h1 : y = Config.mark1
    · obtain ⟨r, hr⟩ := hb.exec_decode_replicate_one hwf hx hbuilt ho (h1 ▸ hi)
      cases ht.symm.trans hr
      nofun
    · obtain ⟨r, hr⟩ := hb.exec_decode_replicate_other hwf hx hbuilt ho hi h0 h1
      cases ht.symm.trans hr
      nofun

/-! ### Trees of two symbols or more (43_decode.md R179, R187) -/

/-- Node `i` is an internal node of the tree of input `u`. -/
def State.IsInternalOf (s : State) (u : List Byte) (i : BitVec 9) : Prop :=
  i.toNat < (tree (count u)).nodes.length ∧ ∃ n, s.nodeAt i = some n ∧ n.leaf = false

section Binary

variable {s : State} {u : List Byte} (hb : BuiltFrom s u) (hwf : s.cfg.WellFormed)

include hb hwf

theorem BuiltFrom.root_isInternalOf : s.IsInternalOf u s.root :=
  ⟨(hb.walkStaysBelow hwf).root_lt, (everyNodeHasOneParent s u hb hwf).1⟩

/-- Both markers select a child of an internal node: a merge step gave it two. -/
theorem BuiltFrom.exists_child (hn : 2 ≤ (distinct (count u)).length) {i : BitVec 9} (hi : s.IsInternalOf u i) (m : Marker) :
    ∃ n t k, s.nodeAt i = some n ∧ n.child m = some t ∧ s.nodeAt t = some k ∧ (k.leaf = false → s.IsInternalOf u t) := by
  obtain ⟨hlt, n, hni, hl⟩ := hi
  have hwalk := hb.walkStaysBelow hwf
  have hnode : (tree (count u)).nodes[i.toNat]? = some n := (hb.nodeAt_eq hlt).symm.trans hni
  have hle : (distinct (count u)).length ≤ i.toNat := by
    by_contra h
    cases hl.symm.trans ((treeShape_tree (count u)).ordered.leaf_of_lt hnode (Nat.lt_of_not_le h))
  obtain ⟨a, b, hab⟩ := (mergeOrder_tree hn).merged i.toNat hle hlt
  obtain ⟨t, hc⟩ : ∃ t, n.child m = some t := by
    cases hnode.symm.trans hab.node
    cases m
    · exact ⟨_, rfl⟩
    · exact ⟨_, rfl⟩
  have ht := hwalk.child_lt hlt hni hc
  obtain ⟨k, hk⟩ := hwalk.nodeAt_eq_some ht
  exact ⟨n, t, k, hni, hc, hk, fun hkl => ⟨ht, k, hk, hkl⟩⟩

/-- Every sequence of markers is a walk from an internal node: no step meets an absent child. -/
theorem BuiltFrom.exists_emits (hn : 2 ≤ (distinct (count u)).length) {i : BitVec 9} (hi : s.IsInternalOf u i)
    (ms : List Marker) : ∃ out c, Emits s i ms out c := by
  induction ms generalizing i with
  | nil => exact ⟨[], i, .nil i⟩
  | cons m ms ih =>
    obtain ⟨n, t, k, hni, hc, hk, hinner⟩ := hb.exists_child hwf hn hi m
    cases hl : k.leaf with
    | false =>
      obtain ⟨out, c, h⟩ := ih (hinner hl)
      exact ⟨out, c, .inner hni hc hk hl h⟩
    | true =>
      obtain ⟨out, c, h⟩ := ih (hb.root_isInternalOf hwf)
      exact ⟨k.sym :: out, c, .leaf hni hc hk hl h⟩

end Binary

/-- Settles O47: the markers are a walk from the root, which ends at the root or inside a code. -/
theorem validMarkersFailOnlyIncomplete : Obligations.ValidMarkersFailOnlyIncomplete := by
  intro s u ms hb hwf hn hbuilt ho hi
  rw [← length_distinct_count (hb.length_lt hwf)] at hn
  obtain ⟨out, c, h⟩ := hb.exists_emits hwf hn (hb.root_isInternalOf hwf) ms
  by_cases hc : c = s.root
  · exact ⟨_, exec_decode_of_emits hbuilt ho hi (hc ▸ h), .inl rfl⟩
  · exact ⟨_, exec_decode_incomplete hbuilt ho h hi hc, .inr rfl⟩

end Sys2Proof.Machine

/-!
The accessors READ_FREQ and READ_CODE (44_accessors.md R195, R196, R198): their completions, which test nothing and keep IBUF, IN_OVF and the tables.
-/

namespace Sys2Proof.Machine

open Sys2Proof

theorem exec_readFreq (v : Byte) (s : State) : exec (.readFreq v) s = .next (s.succeed (entry s.freq v)) := rfl

theorem exec_readCode (v : Byte) (s : State) :
    exec (.readCode v) s = .next ((s.setOutput (entry s.code v).units).succeed (zext32 (entry s.code v).len.toNat)) := rfl

/-- Settles O28: a success whose result is the FREQ entry. -/
theorem readFreqReturnsCount : Obligations.ReadFreqReturnsCount :=
  fun s v => ⟨_, _, exec_readFreq v s⟩

/-- Settles O29: a success over the units of the stored code, which are its bits in order (`CodeRec.units_eq`). -/
theorem readCodeReturnsCode : Obligations.ReadCodeReturnsCode := by
  intro s v
  rw [exec_readCode, CodeRec.units_eq]
  exact ⟨_, _, rfl⟩

end Sys2Proof.Machine

/-!
The reads of RESULT, ERR_INDEX, IN_COUNT and OUT_COUNT while BUSY = 0 (45_host_interface.md R208, R209, R212, R214).
-/

namespace Sys2Proof.Machine

open Sys2Proof

/-- Settles O15: four accesses performed at once, whose effect is the answer with the register's value. -/
theorem registerReadsReturnRegisters : Obligations.RegisterReadsReturnRegisters :=
  fun _ hidle => ⟨hostAccess_idle hidle, hostAccess_idle hidle, hostAccess_idle hidle, hostAccess_idle hidle⟩

end Sys2Proof.Machine

/-!
The error table (60_exceptions.md R225, R227): which error each command can raise and with what detail, index and result, the record that each
completion leaves, and NotBuilt before every other error.
-/

namespace Sys2Proof.Machine

open Sys2Proof

/-! ### The rows of the table -/

/-- The rows of the error table that `raise` writes, by command: the error, its detail, its index and the RESULT of its record. -/
inductive ErrorRow (s : State) : Instr → Err → Detail → Nat → Nat → Prop where
  | emptyInput : ErrorRow s .build .invalidInput .none 0 0
  | unbuilt {i : Instr} (hi : i = .encode ∨ i = .decode) : ErrorRow s i .notBuilt .none 0 0
  | inOverflow {i : Instr} (hi : IsDataCommand i) : ErrorRow s i .capacityExceeded .inOverflow s.cfg.ibufDepth 0
  | unknownSymbol (k : Nat) : ErrorRow s .encode .unknownSymbol .none k 0
  | outOverflow (k : Nat) : ErrorRow s .encode .capacityExceeded .outOverflow k 0
  | badMarker (k r : Nat) : ErrorRow s .decode .invalidEncoding .badMarker k r
  | noChild (k r : Nat) : ErrorRow s .decode .invalidEncoding .noChild k r
  | incomplete (r : Nat) : ErrorRow s .decode .incompleteSequence .none s.ibuf.length r

/-! ### What the operation rules raise -/

theorem encodeRule_errorRow {s : State} {e : Err} {d : Detail} {k r : Nat} (h : encodeRule s = .raised e d k r) :
    ErrorRow s .encode e d k r := by
  unfold encodeRule at h
  split_ifs at h
  · cases h; exact .unbuilt (.inl rfl)
  · cases h; exact .inOverflow (.inr (.inl rfl))
  · obtain ⟨hs, -⟩ | ⟨k, -, hs⟩ | ⟨k, -, hs⟩ := encodeScan_cases s.code s.cfg.obufDepth 0 [] s.ibuf <;>
      rw [hs] at h <;> cases h
    · exact .unknownSymbol _
    · exact .outOverflow _

/-- An incomplete sequence is found after the last unit (43_decode.md R181). -/
theorem decodeWalk_incomplete_index {s : State} {i : Nat} {cur : BitVec 9} {out us : List Byte} {d : Detail} {k r : Nat}
    (h : decodeWalk s i cur out us = some (.raised .incompleteSequence d k r)) : k = i + us.length := by
  induction us generalizing i cur out with
  | nil =>
    rw [decodeWalk] at h
    split at h <;> cases h
    rfl
  | cons u us ih =>
    rw [decodeWalk] at h
    split at h
    · cases h
    split at h
    · cases h
    split at h
    · cases h
    split at h
    · cases h
    rw [List.length_cons, Nat.add_comm us.length, ← Nat.add_assoc]
    split at h <;> exact ih h

theorem decodeRule_errorRow {s : State} {e : Err} {d : Detail} {k r : Nat} (h : decodeRule s = some (.raised e d k r)) :
    ErrorRow s .decode e d k r := by
  unfold decodeRule at h
  split_ifs at h
  · cases h; exact .unbuilt (.inr rfl)
  · cases h; exact .inOverflow (.inr (.inr rfl))
  · obtain hw | ⟨_, hw⟩ | ⟨_, _, hw⟩ | ⟨_, _, hw⟩ | ⟨_, _, hw⟩ := decodeWalk_cases s 0 s.root [] s.ibuf <;>
      rw [hw] at h <;> cases h
    · exact .badMarker ..
    · exact .noChild ..
    · obtain rfl : k = s.ibuf.length := (decodeWalk_incomplete_index hw).trans (Nat.zero_add _)
      exact .incomplete r

/-! ### The record of a completion -/

/-- How a command completes: with OK, with an error of its rows, or as an illegal word. -/
inductive Completion (s : State) : Instr → State → Prop where
  | ok {i : Instr} {t : State} (herr : t.err = .ok) (hdetail : t.detail = .none) (hindex : t.errIndex = 0)
      (hi : ∀ op r0 v r1, i ≠ .illegal op r0 v r1) : Completion s i t
  | failed {i : Instr} {e : Err} {d : Detail} {k r : Nat} (h : ErrorRow s i e d k r) : Completion s i (s.dataError e d k r)
  | illegal (op rsv0 : BitVec 4) (v : Byte) (rsv1 : BitVec 16) :
      Completion s (.illegal op rsv0 v rsv1) (s.illegalComplete (illegalDetail op))

theorem execBuild_completion {s t : State} (h : execBuild s = .next t) : Completion s .build t := by
  obtain ⟨-, rfl⟩ | ⟨-, -, rfl⟩ | ⟨-, -, rfl⟩ := execBuild_cases h
  · exact .failed (.inOverflow (.inl rfl))
  · exact .failed .emptyInput
  · exact .ok rfl rfl rfl nofun

theorem execEncode_completion {s t : State} (h : execEncode s = .next t) : Completion s .encode t := by
  cases h
  cases hr : encodeRule s with
  | success out => exact .ok rfl rfl rfl nofun
  | raised e d k r => exact .failed (encodeRule_errorRow hr)

theorem execDecode_completion {s t : State} (h : execDecode s = .next t) : Completion s .decode t := by
  obtain ⟨r, hr, rfl⟩ := execDecode_next h
  cases r with
  | success out => exact .ok rfl rfl rfl nofun
  | raised e d k r => exact .failed (decodeRule_errorRow hr)

/-- Every completion of a command is of one of these three kinds. -/
theorem exec_completion {i : Instr} {w : Word} {s t : State} (hi : encode i = .command w) (h : exec i s = .next t) :
    Completion s i t := by
  cases i with
  | build => exact execBuild_completion h
  | encode => exact execEncode_completion h
  | decode => exact execDecode_completion h
  | readFreq _ => cases h; exact .ok rfl rfl rfl nofun
  | readCode _ => cases h; exact .ok rfl rfl rfl nofun
  | illegal op rsv0 v rsv1 => cases h; exact .illegal op rsv0 v rsv1
  | rdWriteOnly reg => cases reg <;> cases hi
  | _ => cases hi

/-- NotBuilt is recorded by ENCODE and DECODE alone. -/
theorem Completion.encode_or_decode_of_notBuilt {i : Instr} {s t : State} (h : Completion s i t) (he : t.err = .notBuilt) :
    i = .encode ∨ i = .decode := by
  cases h with
  | ok herr => rw [herr] at he; cases he
  | failed h =>
    cases h with
    | unbuilt hi => exact hi
    | _ => cases he
  | illegal => cases he

/-! ### The obligations -/

theorem illegalDetail_cases (op : BitVec 4) : illegalDetail op = .badOpcode ∨ illegalDetail op = .rsvField := by
  unfold illegalDetail
  split
  · exact .inl rfl
  · exact .inr rfl

/-- Settles O52: the kinds of completion, and the rows of an error, are the disjuncts of the table. -/
theorem recordsFollowErrorTable : Obligations.RecordsFollowErrorTable := by
  intro i w s t hi _ h
  cases exec_completion hi h with
  | ok herr hdetail hindex hlegal => exact .inl ⟨herr, hdetail, hindex, hlegal⟩
  | failed hrow =>
    right
    cases hrow with
    | emptyInput => exact .inl ⟨rfl, rfl, rfl, rfl, rfl⟩
    | unbuilt hi => exact .inr (.inl ⟨rfl, rfl, rfl, rfl, hi⟩)
    | unknownSymbol k => exact .inr (.inr (.inl ⟨rfl, rfl, rfl, rfl⟩))
    | badMarker k r => exact .inr (.inr (.inr (.inl ⟨rfl, .inl rfl, rfl⟩)))
    | noChild k r => exact .inr (.inr (.inr (.inl ⟨rfl, .inr rfl, rfl⟩)))
    | incomplete r => exact .inr (.inr (.inr (.inr (.inl ⟨rfl, rfl, rfl, rfl⟩))))
    | inOverflow hi => exact .inr (.inr (.inr (.inr (.inr (.inl ⟨rfl, rfl, rfl, rfl, hi⟩)))))
    | outOverflow k => exact .inr (.inr (.inr (.inr (.inr (.inr (.inl ⟨rfl, rfl, rfl, rfl⟩))))))
  | illegal op rsv0 v rsv1 =>
    iterate 8 right
    exact ⟨rfl, illegalDetail_cases op, rfl, rfl, op, rsv0, v, rsv1, rfl⟩

/-- Settles O24: both operation rules test BUILT first, and NotBuilt is in no row of BUILD or of an accessor. -/
theorem unbuiltRaisesNotBuilt : Obligations.UnbuiltRaisesNotBuilt := by
  refine ⟨fun s hb => ⟨?_, ?_⟩, fun s t v h he => ?_⟩
  · rw [exec_encode, encodeRule_of_unbuilt hb]
    exact ⟨_, _, rfl⟩
  · exact ⟨_, _, exec_decode_of_rule (decodeRule_of_unbuilt hb)⟩
  · obtain h | h | h := h <;> simpa using (exec_completion rfl h).encode_or_decode_of_notBuilt he

end Sys2Proof.Machine

/-!
The reset event (70_reset_and_hazards.md R250 to R252): when the scheduler fetches it, and the state it leaves.
-/

namespace Sys2Proof.Machine

open Sys2Proof

/-! ### Fetching the reset -/

theorem fromOutside_of_reset {s : State} {es : List Event} (hev : s.events = .reset :: es) :
    s.fromOutside = .reset { s with events := es } := by
  rw [State.fromOutside, hev]

/-- A reset can come before the completion whether or not an access is held (70_reset_and_hazards.md R251, R252). -/
theorem contested_of_reset {s : State} {es : List Event} (hev : s.events = .reset :: es) : s.contested = true := by
  cases hheld : s.held <;> simp [State.contested, hheld, hev]

/-- A reset to come is the next event, unless the free choice lets a running command complete first (70_reset_and_hazards.md R251; log 3). -/
theorem fetch_of_reset {s : State} {es : List Event} (hev : s.events = .reset :: es) (hfree : s.busy = true ∨ s.held = none) :
    (∃ k, s.fetch = .reset { s with draws := k, events := es }) ∨ (s.busy = true ∧ s.fetch = .command s.drawn) := by
  obtain ⟨-, hc, -⟩ | ⟨hbusy, -, hf⟩ | ⟨-, -, hf⟩ | ⟨hidle, a, hheld, -⟩ | ⟨-, -, hf⟩ := fetch_cases s
  · exact absurd (contested_of_reset hev) (by simp [hc])
  · exact .inr ⟨hbusy, hf⟩
  · exact .inl ⟨_, hf.trans (fromOutside_of_reset (s := s.drawn) hev)⟩
  · simp [hidle, hheld] at hfree
  · exact .inl ⟨_, hf.trans (fromOutside_of_reset hev)⟩

theorem step_of_fetch_reset {s s' : State} (h : s.fetch = .reset s') : step s = .next s'.takeReset := by
  rw [step, h]

/-! ### The obligation -/

/-- Settles O22: the reset is fetched and `State.takeReset` is the state it leaves, or the completion comes first. -/
theorem resetEventSetsResetState : Obligations.ResetEventSetsResetState := by
  intro s es hev hfree
  obtain ⟨k, hf⟩ | ⟨hbusy, hf⟩ := fetch_of_reset hev hfree
  · exact .inl ⟨_, _, _, _, step_of_fetch_reset hf⟩
  · exact .inr ⟨hbusy, step_of_fetch_command (s' := s.drawn) hf⟩

end Sys2Proof.Machine
